-- ==== Sys2Proof/Word.lean ====
section
/-! DEFINITION. The two widths of the datapath: the 64-bit word and the byte (00_scope R6, R8). -/

namespace Sys2Proof

/-- A word: an unsigned integer in 0 .. 2^64 − 1, bits numbered 63 down to 0 (R8). -/
abbrev Word := BitVec 64

/-- A byte: an unsigned integer in 0 .. 255 (R8). -/
abbrev Byte := BitVec 8

end Sys2Proof
end

