-- ==== Sys2Proof/Config.lean ====
section
/-! DEFINITION. What an implementation fixes (the open parameter MAX_MSG_BYTES) and the free values a read of
`unspecified` storage draws (00_scope R7, R9). -/

namespace Sys2Proof

/-- The open parameters of one instance (00_scope R7). HostMap and NUM_INSTANCES are open too, but no rule of one
instance reads them (log 16). -/
structure Config where
  /-- MAX_MSG_BYTES, the capacity of MSG: 0 .. 2^61 − 1, which is exactly the range of 61 bits (92 D6; log 5). -/
  maxMsgBytes : BitVec 61
  deriving DecidableEq, Repr

/-- FREE VALUE. The word a read of an `unspecified` register draws (00_scope R9, 92 D9; log 3). It has no body: a
statement about it holds for every function. Its argument numbers the draw. -/
opaque Config.freeWord : Nat → Word

/-- FREE VALUE. The byte a read of an `unspecified` memory cell draws (00_scope R9, 92 D9; log 3). -/
opaque Config.freeByte : Nat → Byte

end Sys2Proof
end

