-- ==== Sys2Proof/Syntax.lean ====
section
/-! DEFINITION. The operations of spec/opcode_table.json, one constructor a row, the two forms of code they are
encoded in, and why a code is rejected (30_encoding R91, R92, R94, R96). -/

namespace Sys2Proof

/-- The operations: eleven control-word rows and the host command START (30_encoding R92, R96). -/
inductive Instr where
  | idle                     -- wait state after reset (45 R176)
  | pad                      -- build the padded message (41 R140)
  | seed                     -- H <- IV (45 R179)
  | parse                    -- W[0..15] <- block BLK (42 R150)
  | sched (t : BitVec 7)     -- W[t] by the recurrence, 16 <= t <= 79 (42 R151)
  | loadv                    -- a..h <- H (43 R160)
  | round (t : BitVec 7)     -- one round, t <= 79 (43 R161)
  | fold                     -- H <- H + a..h (43 R162)
  | serialize                -- DIG <- big-endian H (44 R170)
  | done                     -- wait state, digest valid (45 R176)
  | fault                    -- wait state, sticky (60 R209)
  | start                    -- host command, no control word (45 R175)
  deriving DecidableEq, Repr

/-- What an operation is encoded in: format `U`, a control word of 11 bits (30_encoding R91), or format `H`, the one
bit written to CTRL (30_encoding R96, 10_state R31). -/
inductive Code where
  | control (cw : BitVec 11)
  | command (start : BitVec 1)
  deriving DecidableEq, Repr

/-- Why a code is no operation (30_encoding R94, 10_state R31). -/
inductive DecodeError where
  | reservedPhase (ph : BitVec 4)                  -- PH 10 to 14, with any T
  | reservedIndex (ph : BitVec 4) (t : BitVec 7)   -- T ≠ 0 where T must be 0
  | schedIndex (t : BitVec 7)                      -- SCHED with T < 16 or T > 79
  | roundIndex (t : BitVec 7)                      -- ROUND with T > 79
  | noCommand                                      -- a write of 0 to CTRL.START
  deriving DecidableEq, Repr

/-- The name of the operation's row in spec/opcode_table.json (30_encoding R102). -/
def Instr.mnemonic : Instr → String
  | .idle => "IDLE"
  | .pad => "PAD"
  | .seed => "SEED"
  | .parse => "PARSE"
  | .sched _ => "SCHED"
  | .loadv => "LOADV"
  | .round _ => "ROUND"
  | .fold => "FOLD"
  | .serialize => "SERIALIZE"
  | .done => "DONE"
  | .fault => "FAULT"
  | .start => "START"

/-- One line of a listing: the decimal index stands after SCHED and ROUND (30_encoding R102). -/
def Instr.listing (i : Instr) : String :=
  match i with
  | .sched t => i.mnemonic ++ " " ++ toString t.toNat
  | .round t => i.mnemonic ++ " " ++ toString t.toNat
  | _ => i.mnemonic

end Sys2Proof
end

