-- ==== Sys2Proof/WellFormed.lean ====
section
/-! DEFINITION. Which terms of Instr are operations of the hardware (30_encoding R91, R94). -/

namespace Sys2Proof

/-- SCHED takes 16 <= t <= 79 and ROUND t <= 79; nothing else has an operand (30_encoding R92, R94). -/
def Instr.wf : Instr → Bool
  | .sched t => 16 ≤ t.toNat && t.toNat ≤ 79
  | .round t => t.toNat ≤ 79
  | .idle | .pad | .seed | .parse | .loadv | .fold | .serialize | .done | .fault | .start => true

end Sys2Proof
end

