-- ==== Sys2Proof/Decode.lean ====
section
/-! DEFINITION. The total decoder of control words and of the host command, the encoder, and the operation map of
30_encoding R92 as data. -/

namespace Sys2Proof

/-- The PH field of a control word, bits 10:7 (30_encoding R91). -/
def phaseField (cw : BitVec 11) : BitVec 4 := cw.extractLsb' 7 4

/-- The T field of a control word, bits 6:0 (30_encoding R91). -/
def indexField (cw : BitVec 11) : BitVec 7 := cw.extractLsb' 0 7

/-- The control word PH ‖ T (30_encoding R90). -/
def controlWord (ph : BitVec 4) (t : BitVec 7) : BitVec 11 := ph ++ t

/-- An operation without an index: T must be 0 (30_encoding R91, R94). -/
def unindexed (i : Instr) (ph : BitVec 4) (t : BitVec 7) : Except DecodeError Instr :=
  if t = 0#7 then .ok i else .error (.reservedIndex ph t)

/-- The decoder of control words, total on all 2048 (30_encoding R104). -/
def decodeControl (cw : BitVec 11) : Except DecodeError Instr :=
  let ph := phaseField cw
  let t := indexField cw
  if ph = 0#4 then unindexed .idle ph t
  else if ph = 1#4 then unindexed .pad ph t
  else if ph = 2#4 then unindexed .seed ph t
  else if ph = 3#4 then unindexed .parse ph t
  else if ph = 4#4 then
    if 16 ≤ t.toNat ∧ t.toNat ≤ 79 then .ok (.sched t) else .error (.schedIndex t)
  else if ph = 5#4 then unindexed .loadv ph t
  else if ph = 6#4 then
    if t.toNat ≤ 79 then .ok (.round t) else .error (.roundIndex t)
  else if ph = 7#4 then unindexed .fold ph t
  else if ph = 8#4 then unindexed .serialize ph t
  else if ph = 9#4 then unindexed .done ph t
  else if ph = 15#4 then unindexed .fault ph t
  else .error (.reservedPhase ph)

/-- The decoder of a write to CTRL: 1 is START, 0 has no effect (10_state R31, 30_encoding R96). -/
def decodeCommand (b : BitVec 1) : Except DecodeError Instr :=
  if b = 1#1 then .ok .start else .error .noCommand

/-- The decoder of either form of code. -/
def decode : Code → Except DecodeError Instr
  | .control cw => decodeControl cw
  | .command b => decodeCommand b

/-- The code of an operation (30_encoding R92, R96). -/
def encode : Instr → Code
  | .idle => .control 0x000#11
  | .pad => .control 0x080#11
  | .seed => .control 0x100#11
  | .parse => .control 0x180#11
  | .sched t => .control (controlWord 4#4 t)
  | .loadv => .control 0x280#11
  | .round t => .control (controlWord 6#4 t)
  | .fold => .control 0x380#11
  | .serialize => .control 0x400#11
  | .done => .control 0x480#11
  | .fault => .control 0x780#11
  | .start => .command 1#1

/-- The match and mask of the operation's row of the operation map (30_encoding R92); START has no control word. -/
def rowOf : Instr → Option (BitVec 11 × BitVec 11)
  | .idle => some (0x000#11, 0x7FF#11)
  | .pad => some (0x080#11, 0x7FF#11)
  | .seed => some (0x100#11, 0x7FF#11)
  | .parse => some (0x180#11, 0x7FF#11)
  | .sched _ => some (0x200#11, 0x780#11)
  | .loadv => some (0x280#11, 0x7FF#11)
  | .round _ => some (0x300#11, 0x780#11)
  | .fold => some (0x380#11, 0x7FF#11)
  | .serialize => some (0x400#11, 0x7FF#11)
  | .done => some (0x480#11, 0x7FF#11)
  | .fault => some (0x780#11, 0x7FF#11)
  | .start => none

/-- Word `w` selects the row of `i`: (w AND mask) = match and the row's T constraint holds (30_encoding R92). -/
def selectsRow (w : BitVec 11) (i : Instr) : Bool :=
  match rowOf i with
  | none => false
  | some (m, mask) => (w &&& mask) == m && i.wf &&
    (match i with
     | .sched t => indexField w == t
     | .round t => indexField w == t
     | _ => true)

/-- The host's question: the operation whose table bits are `w`. A row of at most 8 bits is START's, the bit written to
CTRL; every other row is a control word of 11 bits, and a set bit above them is no control word (log 15). -/
def decodeTableWord (nbits w : Nat) : Option Instr :=
  if nbits ≤ 8 then
    if w < 2 then (decode (.command (BitVec.ofNat 1 w))).toOption else none
  else
    if w < 2048 then (decode (.control (BitVec.ofNat 11 w))).toOption else none

end Sys2Proof
end

