-- ==== Sys2Proof/Machine/State.lean ====
section
/-! DEFINITION. The state of one pipeline instance (10_state R20), the host's events, the reasons a step can stop, and
the state after reset (10_state R41). Plain data throughout. -/

namespace Sys2Proof.Machine

/-- What a 64-bit register holds: a word, or the spec's own `unspecified`, which "holds no value a rule may rely on; a
read of it is a draw" (00_scope R9). Reset, a fault and START write `unspecified` (R41, R208, R175; log 3). -/
inductive Reg where
  | word (w : Word)
  | unspecified
  deriving DecidableEq, Repr

/-- The bytes of one memory, as (address, byte) pairs. An address that is not listed is `unspecified` (00_scope R9,
10_state R41): a read of it is a draw (log 3). -/
abbrev Memory := List Host.Cell

/-- The canonical form of a memory: addresses strictly rising, so that equal memories are equal lists. No byte is what
an unlisted address reads as (that is `unspecified`), so no listed entry is superfluous. -/
abbrev Memory.wf (m : Memory) : Prop := m.Pairwise fun x y => x.1 < y.1

/-- The three disjoint byte spaces (10_state R34, 20_memory R60). -/
inductive Space where
  | msg   -- the message memory, written by the host
  | pmb   -- the padded-message buffer
  | dig   -- the digest buffer
  deriving DecidableEq, Repr

/-- The events of the host (30_encoding R102, 92 D3). START is `writeCtrl 1` (10_state R31). A write of STATUS is
ignored (10_state R32; log 20). -/
inductive HostEvent where
  | reset                                   -- the signal rst (70 R230)
  | writeCtrl (start : BitVec 1)            -- CTRL.START <- start
  | writeMsg (addr : BitVec 61) (v : Byte)  -- WRITE MSG[addr] = v
  | writeMlen (n : BitVec 61)               -- WRITE MLEN = n
  | writeStatus (v : BitVec 5)              -- a write to the read-only STATUS
  | readMlen
  | readStatus
  | readDig (addr : BitVec 6)
  deriving DecidableEq, Repr

/-- Whose turn a step is (20_memory R73, 60_exceptions R207; log 1, 13). -/
inductive Turn where
  | core                    -- the sequencer takes its step
  | host (e : HostEvent)    -- a host event, between two micro-operations
  | edge (e : HostEvent)    -- a micro-operation and a host event on the same clock edge
  deriving DecidableEq, Repr

/-- What a host read returns (10_state R32, R33, 44_serializer R171; log 2). -/
inductive Reply where
  | mlen (n : BitVec 61)
  | status (v : BitVec 5)
  | dig (addr : BitVec 6) (v : Byte)
  deriving DecidableEq, Repr

/-- The complete state of one instance (10_state R20), and below it the model's own four fields. -/
@[ext]
structure State where
  /-- Hash state H[0..7] (10_state R21). -/
  h : Vector Reg 8
  /-- Working variables a..h, V[0] = a .. V[7] = h (10_state R22). -/
  v : Vector Reg 8
  /-- Message schedule W[0..79] (10_state R24). -/
  w : Vector Reg 80
  /-- Phase of the sequencer (10_state R27, R28). -/
  ph : BitVec 4
  /-- Schedule or round index of the sequencer (10_state R27). -/
  t : BitVec 7
  /-- Block index of the sequencer (10_state R27; log 10). -/
  blk : BitVec 55
  /-- Cause of the fault taken, 0 when none (10_state R32). -/
  fcause : BitVec 2
  /-- Message length in bytes (10_state R33). -/
  mlen : BitVec 61
  /-- Message memory (10_state R36). -/
  msg : Memory
  /-- Padded-message buffer (10_state R37). -/
  pmb : Memory
  /-- Digest buffer (10_state R38). -/
  dig : Memory
  /-- MODEL: the open parameters of the instance, never written (00_scope R7; log 5). -/
  cfg : Config
  /-- MODEL: the number of the next draw (00_scope R9; log 3). -/
  draws : Nat
  /-- MODEL: the turns to come; when none is left every step is the sequencer's (log 1). -/
  agenda : List Turn
  /-- MODEL: what the host's reads have returned, newest first (log 2). -/
  replies : List Reply
  deriving DecidableEq, Repr

/-- Why the machine stops. Neither is the FAULT phase, which is a state like any other (60_exceptions R208). -/
inductive Fault where
  /-- Raised by the sequencer's step, and by SCHED or ROUND given an index the control word cannot have. SAFE: the spec
  gives such a state no step, "the state is stuck, it is not final, and no claim holds of it" (30_encoding R94; log 6). -/
  | reservedControlWord (why : DecodeError)
  /-- Raised by a byte access outside its space: MemRead and MemWrite are "defined only when 0 ≤ addr and addr + n ≤
  size of S" (20_memory R61; log 7). SAFE: the model stops where the spec gives the access no meaning. -/
  | outsideSpace (space : Space)
  deriving DecidableEq, Repr

/-- Why an instruction has no meaning. -/
inductive Refusal where
  /-- Raised by exec alone, for an instruction that has no meaning yet. SAFE. No arm of exec raises it any more. -/
  | notModelled (mnemonic : String)
  deriving DecidableEq, Repr

/-- The state after reset of an instance with parameters `cfg` (10_state R41): control state 0, data state
`unspecified`, no reply given and nothing scheduled by the host. -/
def State.resetWith (cfg : Config) : State where
  h := Vector.replicate 8 .unspecified
  v := Vector.replicate 8 .unspecified
  w := Vector.replicate 80 .unspecified
  ph := 0#4
  t := 0#7
  blk := 0#55
  fcause := 0#2
  mlen := 0#61
  msg := []
  pmb := []
  dig := []
  cfg := cfg
  draws := 0
  agenda := []
  replies := []

/-- The machine right after reset (10_state R41), with the largest message memory the spec admits (log 5). -/
def State.reset : State := State.resetWith ⟨BitVec.allOnes 61⟩

end Sys2Proof.Machine
end

