-- ==== Sys2Proof/Machine/Functions.lean ====
section
/-! DEFINITION. The combinational functions of the datapath (40_primitives) and the big-endian byte order (20_memory
R62). They read nothing but their arguments. -/

namespace Sys2Proof.Machine

/-- add64: addition modulo 2^64, the carry out of bit 63 is discarded (R120). -/
def add64 (x y : Word) : Word := x + y

/-- rotr: rotate right by `b` bits within 64, 1 ≤ b ≤ 63 (R121). -/
def rotr (x : Word) (b : Nat) : Word := (x >>> b) ||| (x <<< (64 - b))

/-- shr: logical right shift by `b` bits, zeros enter at the top (R122). -/
def shr (x : Word) (b : Nat) : Word := x >>> b

/-- σ0, on W[t−15] (R124). -/
def smallSigma0 (x : Word) : Word := rotr x 1 ^^^ rotr x 8 ^^^ shr x 7

/-- σ1, on W[t−2] (R125). -/
def smallSigma1 (x : Word) : Word := rotr x 19 ^^^ rotr x 61 ^^^ shr x 6

/-- Σ0, on a (R126). -/
def bigSigma0 (x : Word) : Word := rotr x 28 ^^^ rotr x 34 ^^^ rotr x 39

/-- Σ1, on e (R127). -/
def bigSigma1 (x : Word) : Word := rotr x 14 ^^^ rotr x 18 ^^^ rotr x 41

/-- Ch, choose (R128). -/
def ch (x y z : Word) : Word := (x &&& y) ^^^ (~~~x &&& z)

/-- Maj, majority (R129). -/
def maj (x y z : Word) : Word := (x &&& y) ^^^ (x &&& z) ^^^ (y &&& z)

/-- be64: the word whose most significant byte is the first of the sequence (20_memory R62). -/
def be64 (s : Vector Byte 8) : Word :=
  s[0] ++ s[1] ++ s[2] ++ s[3] ++ s[4] ++ s[5] ++ s[6] ++ s[7]

/-- tobe64: byte `i` is w[63−8i : 56−8i] (20_memory R62). -/
def tobe64 (w : Word) : Vector Byte 8 :=
  Vector.ofFn fun i : Fin 8 => w.extractLsb' (56 - 8 * i) 8

end Sys2Proof.Machine
end

