-- ==== Sys2Proof/Machine/Flags.lean ====
section
/-! DEFINITION. What is decoded from the control state and never stored: the length functions of the padder (41_padder
R141, R143), the capacities (10_state R36 to R38), the control word (30_encoding R90), and the status flags (10_state
R30, R32). -/

namespace Sys2Proof.Machine

/-- z(n), the number of zero pad bytes: the non-negative residue of 111 − n modulo 128 (R141). -/
def padZeros (n : Nat) : Nat := ((111 - (n : Int)) % 128).toNat

/-- P(n), the length of the padded message in bytes (R143). -/
def paddedLength (n : Nat) : Nat := n + 1 + padZeros n + 16

/-- N(n), the number of blocks of the padded message (R143). -/
def blockCount (n : Nat) : Nat := paddedLength n / 128

/-- n, the message length in bytes (10_state R29). -/
def State.n (s : State) : Nat := s.mlen.toNat

/-- The number of cells of a space: MAX_MSG_BYTES, PMB_BYTES = 128·⌈(MAX_MSG_BYTES + 17)/128⌉, and 64 (10_state R36,
R37, R38). -/
def State.size (s : State) : Space → Nat
  | .msg => s.cfg.maxMsgBytes.toNat
  | .pmb => 128 * ((s.cfg.maxMsgBytes.toNat + 17 + 127) / 128)
  | .dig => 64

/-- The control word read off the sequencer state, CW = PH ‖ T (30_encoding R90). -/
def State.controlWord (s : State) : BitVec 11 := Sys2Proof.controlWord s.ph s.t

/-- BUSY: PH is one of 1 to 8, a call is running (10_state R30). -/
def State.busy (s : State) : Bool := 1 ≤ s.ph.toNat && s.ph.toNat ≤ 8

/-- DONE: PH = 9, DIG holds the digest of the last call (10_state R30). -/
def State.isDone (s : State) : Bool := s.ph == phDone

/-- FAULT: PH = 15, a fault was taken (10_state R30). -/
def State.isFault (s : State) : Bool := s.ph == phFault

/-- STATUS: bit 0 BUSY, bit 1 DONE, bit 2 FAULT, bits 4:3 FCAUSE (10_state R32). -/
def State.status (s : State) : BitVec 5 :=
  s.fcause ++ BitVec.ofBool s.isFault ++ BitVec.ofBool s.isDone ++ BitVec.ofBool s.busy

end Sys2Proof.Machine
end

