-- ==== Sys2Proof/Machine/Ops.lean ====
section
/-! DEFINITION. The named operations over registers and memory, taking a fault (60_exceptions R208), reset (70 R230)
and reading the next control word (30_encoding R90). -/

namespace Sys2Proof.Machine

/-- The byte a memory lists at an address, none where nothing is listed (`unspecified`). -/
def Memory.read (m : Memory) (a : Nat) : Option Byte :=
  match m with
  | [] => none
  | (k, b) :: rest => if k = a then some b else Memory.read rest a

/-- The memory with byte `b` at address `a` and every other address as it was, in canonical form. -/
def Memory.write (m : Memory) (a : Nat) (b : Byte) : Memory :=
  match m with
  | [] => [(a, b)]
  | (k, c) :: rest =>
    if k < a then (k, c) :: Memory.write rest a b
    else if k = a then (a, b) :: rest
    else (a, b) :: (k, c) :: rest

/-- The memory with a sequence of bytes at consecutive addresses from `a`, the first lowest (20_memory R61). -/
def Memory.writeAll (m : Memory) (a : Nat) : List Byte → Memory
  | [] => m
  | b :: bs => Memory.writeAll (m.write a b) (a + 1) bs

/-- The contents of a space. -/
def State.space (s : State) : Space → Memory
  | .msg => s.msg
  | .pmb => s.pmb
  | .dig => s.dig

def State.setPc (s : State) (ph : BitVec 4) (t : BitVec 7) (blk : BitVec 55) : State :=
  { s with ph := ph, t := t, blk := blk }
def State.setH (s : State) (h : Vector Reg 8) : State := { s with h := h }
def State.setV (s : State) (v : Vector Reg 8) : State := { s with v := v }
def State.setW (s : State) (w : Vector Reg 80) : State := { s with w := w }
def State.setFcause (s : State) (c : BitVec 2) : State := { s with fcause := c }
def State.setMlen (s : State) (n : BitVec 61) : State := { s with mlen := n }
def State.setMsg (s : State) (m : Memory) : State := { s with msg := m }
def State.setPmb (s : State) (m : Memory) : State := { s with pmb := m }
def State.setDig (s : State) (m : Memory) : State := { s with dig := m }
def State.setAgenda (s : State) (l : List Turn) : State := { s with agenda := l }

/-- The state with the contents of one space replaced. -/
def State.setSpace (s : State) (sp : Space) (m : Memory) : State :=
  match sp with
  | .msg => s.setMsg m
  | .pmb => s.setPmb m
  | .dig => s.setDig m

/-- `k` numbers of draws are used up, one for each register or cell read (log 3). -/
def State.addDraws (s : State) (k : Nat) : State := { s with draws := s.draws + k }

/-- The host has read `r` (log 2). -/
def State.addReply (s : State) (r : Reply) : State := { s with replies := r :: s.replies }

/-- The byte a read of a cell gives as the draw numbered `k`: the byte listed, or a free value where the cell is
`unspecified` (00_scope R9; log 3). -/
def State.cell (s : State) (sp : Space) (a k : Nat) : Byte :=
  match (s.space sp).read a with
  | some b => b
  | none => Config.freeByte k

/-- MemRead(S, addr, n), lowest address first; defined only inside the space (20_memory R61; log 7). -/
def memRead (sp : Space) (addr n : Nat) (s : State) : Except Fault (Vector Byte n × State) :=
  if addr + n ≤ s.size sp then
    .ok (Vector.ofFn fun i : Fin n => s.cell sp (addr + i) (s.draws + i), s.addDraws n)
  else .error (.outsideSpace sp)

/-- MemWrite(S, addr, n, s), the first byte to the lowest address; defined only inside the space (20_memory R61; log 7). -/
def memWrite {n : Nat} (sp : Space) (addr : Nat) (bytes : Vector Byte n) (s : State) : Except Fault State :=
  if addr + n ≤ s.size sp then .ok (s.setSpace sp ((s.space sp).writeAll addr bytes.toList))
  else .error (.outsideSpace sp)

/-- A file of registers that hold no value a rule may rely on (00_scope R9). -/
def unspecifiedFile (n : Nat) : Vector Reg n := Vector.replicate n .unspecified

/-- H, a..h, W, PMB and DIG become `unspecified` (60_exceptions R208). -/
def State.dropData (s : State) : State :=
  ((((s.setH (unspecifiedFile 8)).setV (unspecifiedFile 8)).setW (unspecifiedFile 80)).setPmb []).setDig []

/-- `raise Fault(cause)`, the one operation that enters FAULT (60_exceptions R208). In FAULT no further fault is taken
and the first cause is kept (60_exceptions R207; log 9). -/
def State.raise (s : State) (cause : BitVec 2) : State :=
  if s.isFault then s else (s.dropData.setFcause cause).setPc phFault 0#7 0#55

/-- RESET, the only exit from FAULT: the values of 10_state R41; the parameters, the host's agenda and replies and the
count of draws are no state of the hardware and stay (70 R230). -/
def State.resetNow (s : State) : State :=
  (((s.dropData.setMsg []).setMlen 0#61).setFcause causeNone).setPc phIdle 0#7 0#55

/-- The operation of the control word the sequencer stands at (30_encoding R90, R104). -/
def State.fetch (s : State) : Except DecodeError Instr := decode (.control s.controlWord)

end Sys2Proof.Machine
end

