-- ==== Sys2Proof/Machine/Operands.lean ====
section
/-! DEFINITION. The operand forms: a register read, a whole register file read, and the words of a block of bytes
(00_scope R9, 30_encoding R93, R98). -/

namespace Sys2Proof.Machine

/-- The word a read of a register gives as the draw numbered `k`: its word, or a free value where it is `unspecified`
(00_scope R9; log 3). -/
def Reg.read (r : Reg) (k : Nat) : Word :=
  match r with
  | .word w => w
  | .unspecified => Config.freeWord k

/-- All registers of a file read once, register `i` as the draw numbered `k + i` (log 3, 4). -/
def readFile {n : Nat} (f : Vector Reg n) (k : Nat) : Vector Word n :=
  Vector.ofFn fun i : Fin n => f[i].read (k + i)

/-- A file of registers that hold these words. -/
def wordFile {n : Nat} (f : Vector Word n) : Vector Reg n := Vector.ofFn fun i : Fin n => .word f[i]

/-- Word `j` of a block: big-endian, bytes 8j to 8j + 7 (30_encoding R98). -/
def blockWord (b : Vector Byte 128) (j : Fin 16) : Word :=
  be64 (Vector.ofFn fun i : Fin 8 => b[8 * j.val + i.val])

/-- The address PARSE reads from: the block index unscaled times 128 (30_encoding R93). -/
def State.blockAddr (s : State) : Nat := 128 * s.blk.toNat

end Sys2Proof.Machine
end

