-- ==== Sys2Proof/Machine/Compressor.lean ====
section
/-! DEFINITION. The compressor (43_compressor). -/

namespace Sys2Proof.Machine

/-- LOADV (R160). -/
def execLoadv (s : State) : Host.Outcome State Fault Refusal :=
  .next (((s.setV (wordFile (readFile s.h s.draws))).addDraws 8).setPc phRound 0#7 s.blk)

/-- temp1 of a round (R161). -/
def temp1 (e f g h k w : Word) : Word :=
  add64 (add64 (add64 (add64 h (bigSigma1 e)) (ch e f g)) k) w

/-- temp2 of a round (R161). -/
def temp2 (a b c : Word) : Word := add64 (bigSigma0 a) (maj a b c)

/-- One round on the working variables a..h with K[t] = `k` and W[t] = `w`; the eight writes are simultaneous (R161). -/
def roundStep (v : Vector Word 8) (k w : Word) : Vector Word 8 :=
  let t1 := temp1 v[4] v[5] v[6] v[7] k w
  let t2 := temp2 v[0] v[1] v[2]
  #v[add64 t1 t2, v[0], v[1], v[2], add64 v[3] t1, v[4], v[5], v[6]]

/-- ROUND t, t ≤ 79 (R161). Its nine reads are the draws of a..h and then of W[t] (log 3). Another `t` is no control
word (30_encoding R94; log 6). -/
def execRound (t : BitVec 7) (s : State) : Host.Outcome State Fault Refusal :=
  if h : t.toNat ≤ 79 then
    let x := roundStep (readFile s.v s.draws) roundConstants[t.toNat] (s.w[t.toNat].read (s.draws + 8))
    let s₁ := (s.setV (wordFile x)).addDraws 9
    if t.toNat < 79 then .next (s₁.setPc phRound (t + 1#7) s.blk)
    else .next (s₁.setPc phFold 0#7 s.blk)
  else .fault (.reservedControlWord (.roundIndex t))

/-- The fold of the working variables into the hash state, word by word (R162). -/
def foldWords (h v : Vector Word 8) : Vector Word 8 := Vector.ofFn fun i : Fin 8 => add64 h[i] v[i]

/-- FOLD: the next block, or the end of the message (R162). Its sixteen reads are the draws of H and then of a..h
(log 3). -/
def execFold (s : State) : Host.Outcome State Fault Refusal :=
  let x := foldWords (readFile s.h s.draws) (readFile s.v (s.draws + 8))
  let s₁ := (s.setH (wordFile x)).addDraws 16
  if s.blk.toNat + 1 < blockCount s.n then .next (s₁.setPc phParse 0#7 (s.blk + 1#55))
  else .next (s₁.setPc phSerialize 0#7 s.blk)

end Sys2Proof.Machine
end

