-- ==== Sys2Proof/Machine/Padder.lean ====
section
/-! DEFINITION. The padder (41_padder). -/

namespace Sys2Proof.Machine

/-- pad(message): the message, 0x80, z zero bytes, the zero upper and the lower word of its length in bits (R140, R142).
Its length is P(n) (R143). -/
def padMessage {n : Nat} (m : Vector Byte n) : Vector Byte (paddedLength n) :=
  (m ++ #v[0x80#8] ++ Vector.replicate (padZeros n) 0#8 ++ tobe64 0#64 ++ tobe64 (BitVec.ofNat 64 (8 * n))).cast
    (by unfold paddedLength; omega)

/-- PAD (R140), after its defensive check (60_exceptions R205; log 11). -/
def execPad (s : State) : Host.Outcome State Fault Refusal :=
  if 0 < paddedLength s.n ∧ paddedLength s.n % 128 = 0 then
    match memRead .msg 0 s.n s with
    | .error f => .fault f
    | .ok (m, s₁) =>
      match memWrite .pmb 0 (padMessage m) s₁ with
      | .error f => .fault f
      | .ok s₂ => .next (s₂.setPc phSeed 0#7 0#55)
  else .next (s.raise causeInvariant)

end Sys2Proof.Machine
end

