-- ==== Sys2Proof/Machine/Scheduler.lean ====
section
/-! DEFINITION. The block scheduler (42_scheduler). -/

namespace Sys2Proof.Machine

/-- W[0..15] replaced by the words of a block, W[16..79] as they were (R150). -/
def parseInto (w : Vector Reg 80) (b : Vector Byte 128) : Vector Reg 80 :=
  Vector.ofFn fun i : Fin 80 => if h : i.val < 16 then .word (blockWord b ⟨i.val, h⟩) else w[i]

/-- PARSE (R150), after its defensive check (60_exceptions R205; log 11). -/
def execParse (s : State) : Host.Outcome State Fault Refusal :=
  if s.blockAddr + 128 ≤ paddedLength s.n then
    match memRead .pmb s.blockAddr 128 s with
    | .error f => .fault f
    | .ok (b, s₁) => .next ((s₁.setW (parseInto s.w b)).setPc phSched 16#7 s.blk)
  else .next (s.raise causeInvariant)

/-- The recurrence of the schedule, on W[t−16], W[t−15], W[t−7], W[t−2] (R151). -/
def scheduleWord (w16 w15 w7 w2 : Word) : Word :=
  add64 (add64 (add64 w16 (smallSigma0 w15)) w7) (smallSigma1 w2)

/-- SCHED t, 16 ≤ t ≤ 79 (R151). Its four reads are the draws numbered in that order (log 3). Another `t` is no control
word (30_encoding R94; log 6). -/
def execSched (t : BitVec 7) (s : State) : Host.Outcome State Fault Refusal :=
  if h : 16 ≤ t.toNat ∧ t.toNat ≤ 79 then
    let x := scheduleWord (s.w[t.toNat - 16].read s.draws) (s.w[t.toNat - 15].read (s.draws + 1))
      (s.w[t.toNat - 7].read (s.draws + 2)) (s.w[t.toNat - 2].read (s.draws + 3))
    let s₁ := (s.setW (s.w.set t.toNat (.word x))).addDraws 4
    if t.toNat < 79 then .next (s₁.setPc phSched (t + 1#7) s.blk)
    else .next (s₁.setPc phLoadv 0#7 s.blk)
  else .fault (.reservedControlWord (.schedIndex t))

end Sys2Proof.Machine
end

