-- ==== Sys2Proof/Machine/Sequencer.lean ====
section
/-! DEFINITION. The host command START, SEED and the wait states of the sequencer (45_sequencer, 60_exceptions). -/

namespace Sys2Proof.Machine

/-- IDLE: no state changes until a host event arrives (R176). -/
def execIdle (s : State) : Host.Outcome State Fault Refusal := .next s

/-- DONE: no state changes until a host event arrives (R176). -/
def execDone (s : State) : Host.Outcome State Fault Refusal := .next s

/-- FAULT: sticky, no state changes; only reset leaves it (60_exceptions R209). -/
def execFault (s : State) : Host.Outcome State Fault Refusal := .next s

/-- SEED: H[i] <- IV[i] (R179). -/
def execSeed (s : State) : Host.Outcome State Fault Refusal :=
  .next ((s.setH (wordFile initialHash)).setPc phParse 0#7 0#55)

/-- START (R175): accepted in IDLE and DONE unless the message is longer than MSG, a fault while BUSY, no effect
otherwise. -/
def execStart (s : State) : Host.Outcome State Fault Refusal :=
  if s.ph = phIdle ∨ s.ph = phDone then
    if s.cfg.maxMsgBytes.toNat < s.n then .next (s.raise causeLenRange)
    else .next ((s.setDig []).setPc phPad 0#7 0#55)
  else if s.busy then .next (s.raise causeHostProtocol)
  else .next s

end Sys2Proof.Machine
end

