-- ==== Sys2Proof/Machine/Serializer.lean ====
section
/-! DEFINITION. The digest serializer (44_serializer). -/

namespace Sys2Proof.Machine

/-- serialize(state): each word as 8 big-endian bytes, in order H0..H7 (R170, 30_encoding R101). -/
def serializeWords (h : Vector Word 8) : Vector Byte 64 :=
  Vector.ofFn fun k : Fin 64 => (tobe64 h[k.val / 8])[k.val % 8]

/-- SERIALIZE (R170). -/
def execSerialize (s : State) : Host.Outcome State Fault Refusal :=
  match memWrite .dig 0 (serializeWords (readFile s.h s.draws)) (s.addDraws 8) with
  | .error f => .fault f
  | .ok s₁ => .next (s₁.setPc phDone 0#7 s.blk)

end Sys2Proof.Machine
end

