-- ==== Sys2Proof/Machine/Dispatch.lean ====
section
/-! DEFINITION. One arm per operation of the opcode table, each a direct call of its meaning. -/

namespace Sys2Proof.Machine

def exec (i : Instr) (s : State) : Host.Outcome State Fault Refusal :=
  match i with
  | .idle => Sys2Proof.Machine.execIdle s
  | .pad => Sys2Proof.Machine.execPad s
  | .seed => Sys2Proof.Machine.execSeed s
  | .parse => Sys2Proof.Machine.execParse s
  | .sched t => Sys2Proof.Machine.execSched t s
  | .loadv => Sys2Proof.Machine.execLoadv s
  | .round t => Sys2Proof.Machine.execRound t s
  | .fold => Sys2Proof.Machine.execFold s
  | .serialize => Sys2Proof.Machine.execSerialize s
  | .done => Sys2Proof.Machine.execDone s
  | .fault => Sys2Proof.Machine.execFault s
  | .start => Sys2Proof.Machine.execStart s

end Sys2Proof.Machine
end

