-- ==== Sys2Proof/Machine/Turns.lean ====
section
/-! DEFINITION. What each turn does: the sequencer's micro-operation, a host event, or both on one clock edge (20_memory
R73, 45_sequencer R177, 60_exceptions R203, R207; log 1, 13). -/

namespace Sys2Proof.Machine

/-- The sequencer's step: the operation of its control word; a reserved control word has no step (30_encoding R94; log 6). -/
def coreTurn (s : State) : Host.Outcome State Fault Refusal :=
  match s.fetch with
  | .ok i => exec i s
  | .error e => .fault (.reservedControlWord e)

/-- WRITE MSG[a] = b: dropped with a fault while BUSY (60_exceptions R203), else one byte (10_state R36). -/
def hostWriteMsg (a : BitVec 61) (b : Byte) (s : State) : Host.Outcome State Fault Refusal :=
  if s.busy then .next (s.raise causeHostProtocol)
  else
    match memWrite .msg a.toNat #v[b] s with
    | .error f => .fault f
    | .ok s₁ => .next s₁

/-- WRITE MLEN = n: dropped with a fault while BUSY (60_exceptions R203), else every value is stored (10_state R33). -/
def hostWriteMlen (n : BitVec 61) (s : State) : Host.Outcome State Fault Refusal :=
  if s.busy then .next (s.raise causeHostProtocol) else .next (s.setMlen n)

/-- READ DIG[a]: the digest byte while DONE, a draw in any other phase, never a fault (44_serializer R171). -/
def hostReadDig (a : BitVec 6) (s : State) : Host.Outcome State Fault Refusal :=
  let b := if s.isDone then s.cell .dig a.toNat s.draws else Config.freeByte s.draws
  .next ((s.addDraws 1).addReply (.dig a b))

/-- A host event (30_encoding R102, 92 D3). A write to CTRL runs the command it decodes to, a write of 0 has no effect
(10_state R31); a write to STATUS is ignored and a read of STATUS or MLEN changes nothing in the block (10_state R32,
R33). -/
def hostTurn (e : HostEvent) (s : State) : Host.Outcome State Fault Refusal :=
  match e with
  | .reset => .next s.resetNow
  | .writeCtrl b =>
    match decode (.command b) with
    | .ok i => exec i s
    | .error _ => .next s
  | .writeMsg a b => hostWriteMsg a b s
  | .writeMlen n => hostWriteMlen n s
  | .writeStatus _ => .next s
  | .readMlen => .next (s.addReply (.mlen s.mlen))
  | .readStatus => .next (s.addReply (.status s.status))
  | .readDig a => hostReadDig a s

/-- A micro-operation and a host event on one clock edge: the micro-operation first, the host event after it; reset
wins, then only reset happens (60_exceptions R207). -/
def edgeTurn (e : HostEvent) (s : State) : Host.Outcome State Fault Refusal :=
  if e = .reset then hostTurn e s
  else
    match coreTurn s with
    | .next s₁ => hostTurn e s₁
    | .fault f => .fault f
    | .refused r => .refused r

/-- The turn at the head of the agenda, taken on the state with that turn used up. With no turn left it is the
sequencer's. -/
def takeTurn (s : State) : Host.Outcome State Fault Refusal :=
  match s.agenda with
  | [] => coreTurn s
  | .core :: rest => coreTurn (s.setAgenda rest)
  | .host e :: rest => hostTurn e (s.setAgenda rest)
  | .edge e :: rest => edgeTurn e (s.setAgenda rest)

/-- The state placed before the operation whose table bits are `w`: for a control word the sequencer stands at it and
has the next turn, for START the host writes its bit to CTRL next (log 14, 15). -/
def placeWord (s : State) (nbits w : Nat) : State :=
  if nbits ≤ 8 then s.setAgenda (.host (.writeCtrl (BitVec.ofNat 1 w)) :: s.agenda)
  else
    let cw := BitVec.ofNat 11 w
    (s.setPc (phaseField cw) (indexField cw) s.blk).setAgenda (.core :: s.agenda)

end Sys2Proof.Machine
end

