-- ==== Sys2Proof/Machine/Contracts.lean ====
section
/-! DEFINITION. The document's contracts as pure functions (30_encoding R103): what the composites EXPAND, COMPRESS and
HASH compute (42 R152, 43 R163, 45 R180). The contracts pad and serialize are padMessage and serializeWords. No step
calls one of these; statements compare runs of the machine with them. -/

namespace Sys2Proof.Machine

/-- Block `i` of the padded message, bytes 128·i to 128·i + 127 (45_sequencer R180). -/
def block {n : Nat} (m : Vector Byte n) (i : Nat) (h : i < blockCount n) : Vector Byte 128 :=
  Vector.ofFn fun k : Fin 128 => (padMessage m)[128 * i + k.val]'(by
    have := k.isLt
    unfold blockCount at h
    omega)

/-- The first 16 + k words of the schedule of a block (42_scheduler R152). -/
def schedule (b : Vector Byte 128) : (k : Nat) → Vector Word (16 + k)
  | 0 => Vector.ofFn (blockWord b)
  | k + 1 =>
    let w := schedule b k
    w.push (scheduleWord w[k] w[k + 1] w[k + 9] w[k + 14])

/-- expand(block): the 80-word message schedule (42_scheduler R152). -/
def expand (b : Vector Byte 128) : Vector Word 80 := schedule b 64

/-- The working variables after the first `k` rounds (43_compressor R163). -/
def rounds (v : Vector Word 8) (w : Vector Word 80) : (k : Nat) → k ≤ 80 → Vector Word 8
  | 0, _ => v
  | k + 1, h => roundStep (rounds v w k (by omega)) roundConstants[k] w[k]

/-- compress(state, schedule): 80 rounds and the fold (43_compressor R163). -/
def compress (h : Vector Word 8) (w : Vector Word 80) : Vector Word 8 :=
  foldWords h (rounds h w 80 (Nat.le_refl 80))

/-- The hash state after the first `k` blocks of a message (45_sequencer R180). -/
def chain {n : Nat} (m : Vector Byte n) : (k : Nat) → k ≤ blockCount n → Vector Word 8
  | 0, _ => initialHash
  | k + 1, h => compress (chain m k (by omega)) (expand (block m k (by omega)))

/-- hash(message): the 64-byte digest (45_sequencer R180). -/
def hashMessage {n : Nat} (m : Vector Byte n) : Vector Byte 64 :=
  serializeWords (chain m (blockCount n) (Nat.le_refl _))

end Sys2Proof.Machine
end

