-- ==== Sys2Proof/Safety.lean ====
section
/-! DEFINITION. The terms claims use: runs, the end of a run (45_sequencer R185), the invariants of the sequencer
(45_sequencer R177) and of the data path (10_state R40, R41), and what control flow may depend on (45_sequencer R183). -/

namespace Sys2Proof.Machine

/-- `k` steps, stopping at the first fault or refusal. -/
def steps : Nat → State → Host.Outcome State Fault Refusal
  | 0, s => .next s
  | k + 1, s =>
    match step s with
    | .next s₁ => steps k s₁
    | .fault f => .fault f
    | .refused r => .refused r

/-- A register holds a word, not `unspecified`. -/
def Reg.Specified (r : Reg) : Prop := r ≠ .unspecified

/-- MSG lists the bytes of the message `m` at addresses 0 to n − 1 (10_state R36). -/
def State.HoldsMessage {n : Nat} (s : State) (m : Vector Byte n) : Prop :=
  s.n = n ∧ ∀ j : Fin n, s.msg.read j = some m[j]

/-- The end of a run: DONE, and the host issues no further event (45_sequencer R185). -/
def State.Final (s : State) : Prop := s.ph = phDone ∧ s.t = 0#7 ∧ s.agenda = []

/-- What the sequencer and the memories satisfy in every reachable state (45_sequencer R177, 10_state R32, 20_memory
R69), and that every memory keeps its canonical form. -/
structure State.ControlInv (s : State) : Prop where
  /-- The control word is never reserved (R177, 30_encoding R94). -/
  control : ∃ i, s.fetch = .ok i
  /-- 0 ≤ BLK < N whenever PH is one of 3 to 8 (R177). -/
  blkRange : 3 ≤ s.ph.toNat → s.ph.toNat ≤ 8 → s.blk.toNat < blockCount s.n
  /-- PAD and SEED stand at BLK = 0 (R177). -/
  blkStart : s.ph = phPad ∨ s.ph = phSeed → s.blk = 0#55
  /-- A call runs only on a message that MSG can hold (60_exceptions R204). -/
  length : s.busy = true → s.n ≤ s.cfg.maxMsgBytes.toNat
  /-- FCAUSE is 0 exactly while FAULT = 0 (10_state R32, 60_exceptions R202). -/
  cause : s.fcause = causeNone ↔ s.isFault = false
  /-- Every memory is in canonical form. -/
  canonical : ∀ sp, (s.space sp).wf
  /-- Every memory lists only cells of its space (20_memory R60, R69). -/
  inside : ∀ sp, ∀ c ∈ s.space sp, c.1 < s.size sp

/-- What each phase will read has been written (10_state R40, R41, 70_reset_and_hazards R235). -/
structure State.DataInv (s : State) : Prop where
  /-- From SEED to FOLD the buffer holds the padded message. -/
  padded : 2 ≤ s.ph.toNat → s.ph.toNat ≤ 7 → ∀ a < paddedLength s.n, s.pmb.read a ≠ none
  /-- From PARSE to SERIALIZE the hash state holds words. -/
  hash : 3 ≤ s.ph.toNat → s.ph.toNat ≤ 8 → ∀ i : Fin 8, s.h[i].Specified
  /-- Before SCHED t the words W[0..t−1] of the block are there. -/
  partialSchedule : s.ph = phSched → ∀ i : Fin 80, i.val < s.t.toNat → s.w[i].Specified
  /-- In LOADV and the rounds the whole schedule is there. -/
  schedule : s.ph = phLoadv ∨ s.ph = phRound → ∀ i : Fin 80, s.w[i].Specified
  /-- In the rounds and FOLD the working variables hold words. -/
  working : s.ph = phRound ∨ s.ph = phFold → ∀ i : Fin 8, s.v[i].Specified
  /-- In DONE the digest is there (44_serializer R171). -/
  digest : s.ph = phDone → ∀ a < 64, s.dig.read a ≠ none

/-- Two states whose sequencers, lengths, parameters and hosts agree; their data may differ (45_sequencer R183). -/
structure State.SameControl (s s' : State) : Prop where
  ph : s.ph = s'.ph
  t : s.t = s'.t
  blk : s.blk = s'.blk
  fcause : s.fcause = s'.fcause
  mlen : s.mlen = s'.mlen
  cfg : s.cfg = s'.cfg
  agenda : s.agenda = s'.agenda

end Sys2Proof.Machine
end

