-- ==== Sys2Proof/Certificates/Slice0/Obligations.lean ====
section
/-! DEFINITION. The statements about the model, each from the numbered rules of spec/. A meaning is stated for every
state: the phase of the sequencer, which is what makes `step` choose an operation, is not assumed again. Where a
conclusion says `draws := k` for some `k`, only the model's own number of the next draw (log 3) is left open; every other
field of the next state is given. -/

open Sys2Proof Sys2Proof.Machine

/-! ## Encoding and decoding -/

/-- A code decodes to an operation exactly when it is the code of that well-formed operation (30_encoding R104, R94):
no bit of a code is dropped and no reserved code falls through to a neighbour. -/
def Obligations.DecodeInvertsEncode : Prop :=
  ∀ (c : Code) (i : Instr), decode c = .ok i ↔ i.wf = true ∧ encode i = c

/-- A control word decodes to the operation whose row of the operation map it selects (30_encoding R92). -/
def Obligations.WordDecodesToTheRowItSelects : Prop :=
  ∀ (w : BitVec 11) (i : Instr), decodeControl w = .ok i ↔ selectsRow w i = true

/-- 153 of the 2048 control words are operations, and the others are the reserved ones of 30_encoding R94. -/
def Obligations.ReservedWordsAreTheListedOnes : Prop :=
  ((List.range 2048).countP fun w => (decodeControl (BitVec.ofNat 11 w)).toBool) = 153 ∧
  ∀ (ph : BitVec 4) (t : BitVec 7), (decodeControl (controlWord ph t)).toBool = false ↔
    (10 ≤ ph.toNat ∧ ph.toNat ≤ 14) ∨
    (ph ∈ [0#4, 1#4, 2#4, 3#4, 5#4, 7#4, 8#4, 9#4, 15#4] ∧ t ≠ 0#7) ∨
    (ph = 4#4 ∧ (t.toNat < 16 ∨ 79 < t.toNat)) ∨ (ph = 6#4 ∧ 79 < t.toNat)

/-- Words written out bit by bit in the table of 95_test_vectors section 10. -/
def Obligations.ListedControlWordsDecode : Prop :=
  decodeControl 0b00000000000#11 = .ok .idle ∧
  decodeControl 0b00010000000#11 = .ok .pad ∧
  decodeControl 0b01000010000#11 = .ok (.sched 16#7) ∧
  decodeControl 0b01001001111#11 = .ok (.sched 79#7) ∧
  decodeControl 0b01100100111#11 = .ok (.round 39#7) ∧
  decodeControl 0b01110000000#11 = .ok .fold ∧
  decodeControl 0b10000000000#11 = .ok .serialize ∧
  decodeControl 0b01000001111#11 = .error (.schedIndex 15#7) ∧
  decodeControl 0b10100000000#11 = .error (.reservedPhase 10#4) ∧
  decodeCommand 0b1#1 = .ok .start

/-- A step on the sequencer's turn is exec of the well-formed operation its control word decodes to, and a host write to
CTRL that decodes to a command is exec of START; the turn taken leaves the agenda (30_encoding R90, 20_memory R72, R73,
10_state R31; log 1). -/
def Obligations.StepRunsTheDecodedInstruction : Prop :=
  ∀ (s : State) (i : Instr),
    (s.agenda = [] → s.fetch = .ok i → i.wf = true ∧ step s = exec i s) ∧
    (∀ rest, s.agenda = .core :: rest → s.fetch = .ok i →
      i.wf = true ∧ step s = exec i { s with agenda := rest }) ∧
    (∀ b rest, s.agenda = .host (.writeCtrl b) :: rest → decode (.command b) = .ok i →
      i = .start ∧ step s = exec .start { s with agenda := rest })

/-- In a state whose control word is reserved the sequencer has no step: it is stuck (30_encoding R94; log 6). -/
def Obligations.ReservedControlWordIsStuck : Prop :=
  ∀ (s : State) (e : DecodeError), s.fetch = .error e →
    (s.agenda = [] ∨ ∃ rest, s.agenda = .core :: rest) → step s = .fault (.reservedControlWord e)

/-- SCHED and ROUND given an index no control word can have stop by the same name (30_encoding R94; log 6). -/
def Obligations.IndexOutOfRangeIsStuck : Prop :=
  ∀ (s : State) (t : BitVec 7),
    (t.toNat < 16 ∨ 79 < t.toNat → exec (.sched t) s = .fault (.reservedControlWord (.schedIndex t))) ∧
    (79 < t.toNat → exec (.round t) s = .fault (.reservedControlWord (.roundIndex t)))

/-! ## Primitive functions and byte order -/

/-- add64 is addition modulo 2^64 of the unsigned values (40_primitives R120). -/
def Obligations.AddWrapsModulo64 : Prop :=
  ∀ x y : Word, (add64 x y).toNat = (x.toNat + y.toNat) % 2 ^ 64

/-- rotr moves bit (i + b) mod 64 to bit i and is undone by rotating by 64 − b (40_primitives R121). -/
def Obligations.RotateMovesBits : Prop :=
  ∀ (x : Word) (b : Nat), 1 ≤ b → b ≤ 63 →
    (∀ i < 64, (rotr x b).getLsbD i = x.getLsbD ((i + b) % 64)) ∧ rotr (rotr x b) (64 - b) = x

/-- shr divides by 2^b and brings zeros in at the top (40_primitives R122). -/
def Obligations.ShiftDividesByPower : Prop :=
  ∀ (x : Word) (b : Nat), 1 ≤ b → b ≤ 63 →
    (shr x b).toNat = x.toNat / 2 ^ b ∧ ∀ i < 64, (shr x b).getLsbD i = (decide (i + b < 64) && x.getLsbD (i + b))

/-- Each bit of σ0, σ1, Σ0, Σ1 is the exclusive or of three bits of the argument (40_primitives R124 to R127, R132). -/
def Obligations.SigmaBits : Prop :=
  ∀ (x : Word) (i : Nat), i < 64 →
    (smallSigma0 x).getLsbD i =
      ((x.getLsbD ((i + 1) % 64) ^^ x.getLsbD ((i + 8) % 64)) ^^ (decide (i + 7 < 64) && x.getLsbD (i + 7))) ∧
    (smallSigma1 x).getLsbD i =
      ((x.getLsbD ((i + 19) % 64) ^^ x.getLsbD ((i + 61) % 64)) ^^ (decide (i + 6 < 64) && x.getLsbD (i + 6))) ∧
    (bigSigma0 x).getLsbD i =
      ((x.getLsbD ((i + 28) % 64) ^^ x.getLsbD ((i + 34) % 64)) ^^ x.getLsbD ((i + 39) % 64)) ∧
    (bigSigma1 x).getLsbD i =
      ((x.getLsbD ((i + 14) % 64) ^^ x.getLsbD ((i + 18) % 64)) ^^ x.getLsbD ((i + 41) % 64))

/-- Ch chooses y[i] where x[i] = 1 and z[i] where x[i] = 0; Maj is 1 where at least two of the three bits are
(40_primitives R128, R129). -/
def Obligations.ChooseAndMajorityBits : Prop :=
  ∀ (x y z : Word) (i : Nat), i < 64 →
    (ch x y z).getLsbD i = (if x.getLsbD i then y.getLsbD i else z.getLsbD i) ∧
    (maj x y z).getLsbD i =
      decide (2 ≤ (x.getLsbD i).toNat + (y.getLsbD i).toNat + (z.getLsbD i).toNat)

/-- be64 is the big-endian value of eight bytes, tobe64 its byte i is w[63−8i : 56−8i], and each undoes the other
(20_memory R62). -/
def Obligations.BigEndianWords : Prop :=
  (∀ s : Vector Byte 8, (be64 s).toNat =
    s[0].toNat * 2 ^ 56 + s[1].toNat * 2 ^ 48 + s[2].toNat * 2 ^ 40 + s[3].toNat * 2 ^ 32 +
    s[4].toNat * 2 ^ 24 + s[5].toNat * 2 ^ 16 + s[6].toNat * 2 ^ 8 + s[7].toNat) ∧
  (∀ (w : Word) (i : Fin 8), (tobe64 w)[i].toNat = w.toNat / 2 ^ (56 - 8 * i.val) % 256) ∧
  (∀ w : Word, be64 (tobe64 w) = w) ∧ ∀ s : Vector Byte 8, tobe64 (be64 s) = s

/-- The ROMs hold the first 64 bits of the fractional parts of the cube roots of the first 80 primes and of the square
roots of the first 8 (10_state R25, R26; the spec took the values from general knowledge, 93 G1 to G3; log 12): the word
k of prime p is the one for which q·2^64 + k is the integer part of the root of p times 2^64, for a whole q. -/
def Obligations.RomsAreRootsOfPrimes : Prop :=
  let primes := (List.range 410).filter fun p => 2 ≤ p && (List.range p).all fun d => d < 2 || p % d != 0
  primes.length = 80 ∧
  (∀ (t : Fin 80) (p : Nat), primes[t.val]? = some p →
    ∃ q < 8, (q * 2 ^ 64 + roundConstants[t].toNat) ^ 3 ≤ p * 2 ^ 192 ∧
      p * 2 ^ 192 < (q * 2 ^ 64 + roundConstants[t].toNat + 1) ^ 3) ∧
  ∀ (i : Fin 8) (p : Nat), primes[i.val]? = some p →
    ∃ q < 8, (q * 2 ^ 64 + initialHash[i].toNat) ^ 2 ≤ p * 2 ^ 128 ∧
      p * 2 ^ 128 < (q * 2 ^ 64 + initialHash[i].toNat + 1) ^ 2

/-! ## Memory -/

/-- MemRead and MemWrite inside a space: a read gives the bytes listed, lowest address first, and changes no storage; a
write sets its cells and no other cell of any space. Outside the space neither is defined and the model stops
(20_memory R61; log 7). -/
def Obligations.MemoryAccess : Prop :=
  ∀ (sp : Space) (addr n : Nat) (s : State),
    (addr + n ≤ s.size sp →
      (∃ bytes k, memRead sp addr n s = .ok (bytes, { s with draws := k }) ∧
        ∀ (i : Fin n) (b : Byte), (s.space sp).read (addr + i) = some b → bytes[i] = b) ∧
      ∀ bytes : Vector Byte n, ∃ s', memWrite sp addr bytes s = .ok s' ∧
        (∀ a, (s'.space sp).read a =
          if h : addr ≤ a ∧ a < addr + n then some (bytes[a - addr]'(by omega)) else (s.space sp).read a) ∧
        s' = { s with msg := s'.msg, pmb := s'.pmb, dig := s'.dig } ∧
        ∀ other, other ≠ sp → s'.space other = s.space other) ∧
    (s.size sp < addr + n → memRead sp addr n s = .error (.outsideSpace sp) ∧
      ∀ bytes : Vector Byte n, memWrite sp addr bytes s = .error (.outsideSpace sp))

/-- A write keeps the canonical form of a memory, changes the byte at its address and no other, and in canonical form
equal contents are equal data (20_memory R61). -/
def Obligations.MemoryIsCanonical : Prop :=
  (∀ (m : Memory) (a b : Nat) (x : Byte), m.wf →
    (m.write a x).wf ∧ (m.write a x).read b = if b = a then some x else m.read b) ∧
  ∀ m m' : Memory, m.wf → m'.wf → (∀ a, m.read a = m'.read a) → m = m'

/-! ## Padder -/

/-- z(n) = (111 − n) mod 128 is the least number of zero bytes that makes the padded length a multiple of 128; in bits
k = (895 − L) mod 1024 = 8z + 7 (41_padder R141). -/
def Obligations.ZeroBytesAreMinimal : Prop :=
  ∀ n : Nat, (padZeros n : Int) = (111 - n) % 128 ∧ padZeros n ≤ 127 ∧ (n + 1 + padZeros n + 16) % 128 = 0 ∧
    (∀ z, (n + 1 + z + 16) % 128 = 0 → padZeros n ≤ z) ∧
    (8 * padZeros n + 7 : Int) = (895 - 8 * n) % 1024 ∧ (8 * n + 1 + (8 * padZeros n + 7)) % 1024 = 896 ∧
    8 * padZeros n + 7 ≤ 1023

/-- P(n) and N(n) in closed form: N ≥ 1, P the least multiple of 128 that is ≥ n + 17, both monotone, and N within 55
bits (41_padder R143). -/
def Obligations.PaddedLengthClosedForm : Prop :=
  ∀ n : Nat, paddedLength n = n + 1 + padZeros n + 16 ∧ paddedLength n = 128 * blockCount n ∧
    blockCount n = (n + 144) / 128 ∧ blockCount n = n / 128 + (if n % 128 ≤ 111 then 1 else 2) ∧
    1 ≤ blockCount n ∧ n + 17 ≤ paddedLength n ∧
    (∀ p, p % 128 = 0 → n + 17 ≤ p → paddedLength n ≤ p) ∧
    (∀ n', n ≤ n' → paddedLength n ≤ paddedLength n' ∧ blockCount n ≤ blockCount n') ∧
    (n ≤ 2 ^ 61 - 1 → blockCount n ≤ 2 ^ 54 + 1)

/-- The padded message byte by byte: the message, 0x80, zeros, the upper length word 0, the length in bits big-endian
(30_encoding R99). -/
def Obligations.PaddedMessageFormat : Prop :=
  ∀ (n : Nat) (m : Vector Byte n), paddedLength n = n + 1 + (((111 : Int) - n) % 128).toNat + 16 ∧
    paddedLength n = 128 * blockCount n ∧
    ∀ (j : Nat) (hj : j < paddedLength n), (padMessage m)[j] =
      if h : j < n then m[j]
      else if j = n then 0x80#8
      else if j < paddedLength n - 8 then 0x00#8
      else (tobe64 (BitVec.ofNat 64 (8 * n)))[j - (paddedLength n - 8)]'(by omega)

/-- PAD: PMB[0 .. P−1] becomes the padded message of MSG[0 .. n−1], nothing else is written but pc <- (SEED, 0, 0), for
every message whose n bytes the host has written and MSG can hold (41_padder R140). -/
def Obligations.PadWritesThePaddedMessage : Prop :=
  ∀ (s : State) (n : Nat) (m : Vector Byte n), s.HoldsMessage m → n ≤ s.cfg.maxMsgBytes.toNat →
    ∃ pmb k, exec .pad s = .next { s with pmb := pmb, ph := 2#4, t := 0#7, blk := 0#55, draws := k } ∧
      ∀ a, pmb.read a =
        if h : a < n then some m[a]
        else if a = n then some 0x80#8
        else if a < 128 * ((n + 144) / 128) - 8 then some 0x00#8
        else if a < 128 * ((n + 144) / 128) then
          some ((BitVec.ofNat 64 (8 * n)).extractLsb' (56 - 8 * (a - (128 * ((n + 144) / 128) - 8))) 8)
        else s.pmb.read a

/-! ## Block scheduler -/

/-- PARSE: W[0..15] become the sixteen big-endian words of block BLK, W[16..79] and all else stay, pc <- (SCHED, 16,
BLK), for every block below N that PMB holds (42_scheduler R150). -/
def Obligations.ParseReadsBigEndianWords : Prop :=
  ∀ (s : State) (b : Vector Byte 128), s.blk.toNat < blockCount s.n → s.n ≤ s.cfg.maxMsgBytes.toNat →
    (∀ k : Fin 128, s.pmb.read (128 * s.blk.toNat + k) = some b[k]) →
    ∃ w k, exec .parse s = .next { s with w := w, ph := 4#4, t := 16#7, draws := k } ∧
      ∀ i : Fin 80, w[i] = if h : i.val < 16 then
        .word (be64 #v[b[8 * i.val], b[8 * i.val + 1], b[8 * i.val + 2], b[8 * i.val + 3], b[8 * i.val + 4],
          b[8 * i.val + 5], b[8 * i.val + 6], b[8 * i.val + 7]])
        else s.w[i]

/-- SCHED t, 16 ≤ t ≤ 79: W[t] becomes the recurrence of W[t−16], W[t−15], W[t−7], W[t−2], no other state changes but pc
(42_scheduler R151). -/
def Obligations.SchedAppliesTheRecurrence : Prop :=
  ∀ (s : State) (t : BitVec 7) (h16 : 16 ≤ t.toNat) (h79 : t.toNat ≤ 79) (w16 w15 w7 w2 : Word),
    s.w[t.toNat - 16] = .word w16 → s.w[t.toNat - 15] = .word w15 →
    s.w[t.toNat - 7] = .word w7 → s.w[t.toNat - 2] = .word w2 →
    ∃ k, exec (.sched t) s = .next { s with
      w := s.w.set t.toNat (.word (w16 + smallSigma0 w15 + w7 + smallSigma1 w2))
      ph := if t.toNat < 79 then 4#4 else 5#4
      t := if t.toNat < 79 then t + 1#7 else 0#7
      draws := k }

/-! ## Compressor -/

/-- LOADV: a..h become H[0..7], H is not changed, pc <- (ROUND, 0, BLK) (43_compressor R160). -/
def Obligations.LoadvCopiesTheHashState : Prop :=
  ∀ s : State, (∀ i : Fin 8, s.h[i].Specified) →
    ∃ k, exec .loadv s = .next { s with v := s.h, ph := 6#4, t := 0#7, draws := k }

/-- ROUND t, t ≤ 79: the eight simultaneous writes of one round with K[t] and W[t], nothing else changes but pc
(43_compressor R161). -/
def Obligations.RoundUpdatesTheWorkingVariables : Prop :=
  ∀ (s : State) (t : BitVec 7) (h79 : t.toNat ≤ 79) (a b c d e f g h w : Word),
    s.v = #v[.word a, .word b, .word c, .word d, .word e, .word f, .word g, .word h] →
    s.w[t.toNat] = .word w →
    let t1 := h + bigSigma1 e + ch e f g + roundConstants[t.toNat] + w
    let t2 := bigSigma0 a + maj a b c
    ∃ k, exec (.round t) s = .next { s with
      v := #v[.word (t1 + t2), .word a, .word b, .word c, .word (d + t1), .word e, .word f, .word g]
      ph := if t.toNat < 79 then 6#4 else 7#4
      t := if t.toNat < 79 then t + 1#7 else 0#7
      draws := k }

/-- FOLD: H[i] becomes H[i] + V[i], a..h and W stay, pc goes to the next block or to SERIALIZE (43_compressor R162). -/
def Obligations.FoldAddsIntoTheHashState : Prop :=
  ∀ (s : State) (x y : Vector Word 8),
    (∀ i : Fin 8, s.h[i] = .word x[i]) → (∀ i : Fin 8, s.v[i] = .word y[i]) →
    ∃ h k, exec .fold s = .next { s with
      h := h
      ph := if s.blk.toNat + 1 < blockCount s.n then 3#4 else 8#4
      t := 0#7
      blk := if s.blk.toNat + 1 < blockCount s.n then s.blk + 1#55 else s.blk
      draws := k } ∧
      ∀ i : Fin 8, h[i] = .word (x[i] + y[i])

/-! ## Serializer, SEED, wait states -/

/-- SERIALIZE: DIG[8i + j] becomes H[i][63−8j : 56−8j] for all 64 cells, H stays, pc <- (DONE, 0, BLK)
(44_serializer R170). -/
def Obligations.SerializeWritesTheDigest : Prop :=
  ∀ (s : State) (x : Vector Word 8), (∀ i : Fin 8, s.h[i] = .word x[i]) →
    ∃ dig k, exec .serialize s = .next { s with dig := dig, ph := 9#4, t := 0#7, draws := k } ∧
      (∀ i j : Fin 8, dig.read (8 * i.val + j.val) = some (x[i].extractLsb' (56 - 8 * j.val) 8)) ∧
      ∀ a, 64 ≤ a → dig.read a = s.dig.read a

/-- SEED: H becomes the initial hash value whatever it held, pc <- (PARSE, 0, 0) (45_sequencer R179, 10_state R26). -/
def Obligations.SeedLoadsTheInitialHash : Prop :=
  ∀ s : State, exec .seed s = .next { s with
    h := #v[.word 0x6a09e667f3bcc908#64, .word 0xbb67ae8584caa73b#64, .word 0x3c6ef372fe94f82b#64,
      .word 0xa54ff53a5f1d36f1#64, .word 0x510e527fade682d1#64, .word 0x9b05688c2b3e6c1f#64,
      .word 0x1f83d9abfb41bd6b#64, .word 0x5be0cd19137e2179#64]
    ph := 3#4
    t := 0#7
    blk := 0#55 }

/-- In IDLE, DONE and FAULT the sequencer performs nothing: no state changes until a host event or reset arrives
(45_sequencer R176, 60_exceptions R209). -/
def Obligations.WaitStatesChangeNothing : Prop :=
  (∀ s : State, exec .idle s = .next s ∧ exec .done s = .next s ∧ exec .fault s = .next s) ∧
  ∀ s : State, s.ph = 0#4 ∨ s.ph = 9#4 ∨ s.ph = 15#4 → s.t = 0#7 → s.agenda = [] → step s = .next s

/-- Result and frame of every micro-operation that reads storage, on any storage: a specified register or cell is read as
what it holds, an `unspecified` one as a draw (00_scope R9, 92 D9), so a message with unwritten bytes is padded with a
draw at each of them (70_reset_and_hazards R232). The numbering of the draws is the model's choice (log 3), as is one
draw for each register or cell an operation reads (log 4). -/
def Obligations.UnspecifiedStorageReadsAsDraws : Prop :=
  (∀ w k, (Reg.word w).read k = w) ∧ (∀ k, Reg.unspecified.read k = Config.freeWord k) ∧
  (∀ (s : State) (t : BitVec 7) (h16 : 16 ≤ t.toNat) (h79 : t.toNat ≤ 79), exec (.sched t) s = .next { s with
    w := s.w.set t.toNat (.word (s.w[t.toNat - 16].read s.draws + smallSigma0 (s.w[t.toNat - 15].read (s.draws + 1)) +
      s.w[t.toNat - 7].read (s.draws + 2) + smallSigma1 (s.w[t.toNat - 2].read (s.draws + 3))))
    ph := if t.toNat < 79 then 4#4 else 5#4
    t := if t.toNat < 79 then t + 1#7 else 0#7
    draws := s.draws + 4 }) ∧
  (∀ s : State, exec .loadv s = .next { s with
    v := Vector.ofFn fun i : Fin 8 => .word (s.h[i].read (s.draws + i))
    ph := 6#4
    t := 0#7
    draws := s.draws + 8 }) ∧
  (∀ (s : State) (t : BitVec 7) (h79 : t.toNat ≤ 79), ∃ v, exec (.round t) s = .next { s with
      v := v
      ph := if t.toNat < 79 then 6#4 else 7#4
      t := if t.toNat < 79 then t + 1#7 else 0#7
      draws := s.draws + 9 } ∧
    v = Vector.ofFn fun i : Fin 8 => .word (roundStep (Vector.ofFn fun i : Fin 8 => s.v[i].read (s.draws + i))
      roundConstants[t.toNat] (s.w[t.toNat].read (s.draws + 8)))[i]) ∧
  (∀ s : State, exec .fold s = .next { s with
    h := Vector.ofFn fun i : Fin 8 => .word (s.h[i].read (s.draws + i) + s.v[i].read (s.draws + 8 + i))
    ph := if s.blk.toNat + 1 < blockCount s.n then 3#4 else 8#4
    t := 0#7
    blk := if s.blk.toNat + 1 < blockCount s.n then s.blk + 1#55 else s.blk
    draws := s.draws + 16 }) ∧
  (∀ s : State, ∃ dig, exec .serialize s = .next { s with dig := dig, ph := 9#4, t := 0#7, draws := s.draws + 8 } ∧
    (∀ i j : Fin 8, dig.read (8 * i.val + j.val) =
      some ((s.h[i].read (s.draws + i)).extractLsb' (56 - 8 * j.val) 8)) ∧
    ∀ a, 64 ≤ a → dig.read a = s.dig.read a) ∧
  (∀ s : State, s.blk.toNat < blockCount s.n → s.n ≤ s.cfg.maxMsgBytes.toNat → ∃ w, exec .parse s = .next { s with
      w := w, ph := 4#4, t := 16#7, draws := s.draws + 128 } ∧
    ∀ i : Fin 80, w[i] = if i.val < 16 then .word (be64 (Vector.ofFn fun j : Fin 8 =>
        (s.pmb.read (128 * s.blk.toNat + (8 * i.val + j.val))).getD (Config.freeByte (s.draws + (8 * i.val + j.val)))))
      else s.w[i]) ∧
  ∀ s : State, s.n ≤ s.cfg.maxMsgBytes.toNat → ∃ pmb, exec .pad s = .next { s with
      pmb := pmb, ph := 2#4, t := 0#7, blk := 0#55, draws := s.draws + s.n } ∧
    ∀ a, pmb.read a =
      if a < s.n then some ((s.msg.read a).getD (Config.freeByte (s.draws + a)))
      else if a = s.n then some 0x80#8
      else if a < 128 * ((s.n + 144) / 128) - 8 then some 0x00#8
      else if a < 128 * ((s.n + 144) / 128) then
        some ((BitVec.ofNat 64 (8 * s.n)).extractLsb' (56 - 8 * (a - (128 * ((s.n + 144) / 128) - 8))) 8)
      else s.pmb.read a

/-! ## START, faults, host events, reset -/

/-- What a fault leaves: FCAUSE and pc set, the data state `unspecified`, MSG, MLEN and the model's own fields kept
(60_exceptions R208). -/
def Obligations.FaultEntry : Prop :=
  ∀ (s : State) (cause : BitVec 2), s.ph ≠ 15#4 →
    s.raise cause = { s with
      h := Vector.replicate 8 .unspecified
      v := Vector.replicate 8 .unspecified
      w := Vector.replicate 80 .unspecified
      pmb := []
      dig := []
      fcause := cause
      ph := 15#4
      t := 0#7
      blk := 0#55 } ∧
    (s.raise cause).isFault = true ∧ (s.raise cause).busy = false ∧ (s.raise cause).isDone = false

/-- START: accepted in IDLE and DONE when MSG can hold the message (DIG becomes `unspecified`, pc <- (PAD, 0, 0), nothing
else changes), LEN_RANGE when it cannot, HOST_PROTOCOL while BUSY, no effect in FAULT (45_sequencer R175). -/
def Obligations.StartBeginsACall : Prop :=
  ∀ s : State,
    ((s.ph = 0#4 ∨ s.ph = 9#4) → s.n ≤ s.cfg.maxMsgBytes.toNat →
      exec .start s = .next { s with dig := [], ph := 1#4, t := 0#7, blk := 0#55 }) ∧
    ((s.ph = 0#4 ∨ s.ph = 9#4) → s.cfg.maxMsgBytes.toNat < s.n → exec .start s = .next (s.raise 2#2)) ∧
    (1 ≤ s.ph.toNat → s.ph.toNat ≤ 8 → exec .start s = .next (s.raise 1#2)) ∧
    (s.ph = 15#4 → exec .start s = .next s)

/-- While BUSY = 1 a START, a write of MSG or a write of MLEN raises HOST_PROTOCOL and is dropped; reads of STATUS, MLEN
and DIG never fault in any phase and change nothing of the block (60_exceptions R203). -/
def Obligations.HostProtocol : Prop :=
  ∀ (s : State) (rest : List Turn),
    (∀ e, s.busy = true → s.agenda = .host e :: rest →
      (e = .writeCtrl 1#1 ∨ (∃ a b, e = .writeMsg a b) ∨ ∃ n, e = .writeMlen n) →
      step s = .next { s with
        agenda := rest
        h := Vector.replicate 8 .unspecified
        v := Vector.replicate 8 .unspecified
        w := Vector.replicate 80 .unspecified
        pmb := []
        dig := []
        fcause := 1#2
        ph := 15#4
        t := 0#7
        blk := 0#55 }) ∧
    ∀ e, s.agenda = .host e :: rest → (e = .readStatus ∨ e = .readMlen ∨ ∃ a, e = .readDig a) →
      ∃ r k, step s = .next { s with agenda := rest, replies := r :: s.replies, draws := k }

/-- While BUSY = 0 a write of MLEN stores all 61 bits, and a write of a byte of MSG inside the memory changes that byte
and no other; nothing else changes (10_state R33, R36, 60_exceptions R209). -/
def Obligations.HostWritesWhileNotBusy : Prop :=
  ∀ (s : State) (rest : List Turn), s.busy = false →
    (∀ n, s.agenda = .host (.writeMlen n) :: rest → step s = .next { s with agenda := rest, mlen := n }) ∧
    ∀ (a : BitVec 61) (b : Byte), s.agenda = .host (.writeMsg a b) :: rest → a.toNat < s.cfg.maxMsgBytes.toNat →
      ∃ msg, step s = .next { s with agenda := rest, msg := msg } ∧
        ∀ x, msg.read x = if x = a.toNat then some b else s.msg.read x

/-- An address outside its space has no meaning and the model stops: a host write beyond MSG while not BUSY, and PAD on a
message MSG cannot hold (20_memory R61; log 7). -/
def Obligations.OutsideSpaceStops : Prop :=
  (∀ (s : State) (rest : List Turn) (a : BitVec 61) (b : Byte), s.busy = false →
    s.agenda = .host (.writeMsg a b) :: rest → s.cfg.maxMsgBytes.toNat ≤ a.toNat →
    step s = .fault (.outsideSpace .msg)) ∧
  ∀ s : State, s.cfg.maxMsgBytes.toNat < s.n → exec .pad s = .fault (.outsideSpace .msg)

/-- What a host read returns: MLEN, STATUS with its five bits, the digest byte in DONE; outside DONE a draw, whatever DIG
holds (10_state R32, R33, 44_serializer R171; log 2). -/
def Obligations.HostReadsReturn : Prop :=
  ∀ (s : State) (rest : List Turn),
    (s.agenda = .host .readMlen :: rest →
      step s = .next { s with agenda := rest, replies := .mlen s.mlen :: s.replies }) ∧
    (s.agenda = .host .readStatus :: rest → ∃ v : BitVec 5,
      step s = .next { s with agenda := rest, replies := .status v :: s.replies } ∧
      v.toNat = (if 1 ≤ s.ph.toNat ∧ s.ph.toNat ≤ 8 then 1 else 0) + (if s.ph = 9#4 then 2 else 0) +
        (if s.ph = 15#4 then 4 else 0) + 8 * s.fcause.toNat) ∧
    (∀ (a : BitVec 6) (b : Byte), s.agenda = .host (.readDig a) :: rest → s.ph = 9#4 →
      s.dig.read a.toNat = some b →
      ∃ k, step s = .next { s with agenda := rest, draws := k, replies := .dig a b :: s.replies }) ∧
    ∀ a : BitVec 6, s.agenda = .host (.readDig a) :: rest → s.ph ≠ 9#4 →
      ∃ k, step s = .next { s with agenda := rest, draws := k, replies := .dig a (Config.freeByte s.draws) :: s.replies }

/-- Events without effect: a write of 0 to CTRL.START and a write to STATUS (10_state R31, R32; log 20). -/
def Obligations.IgnoredHostWrites : Prop :=
  ∀ (s : State) (rest : List Turn) (x : BitVec 5),
    (s.agenda = .host (.writeCtrl 0#1) :: rest → step s = .next { s with agenda := rest }) ∧
    (s.agenda = .host (.writeStatus x) :: rest → step s = .next { s with agenda := rest })

/-- The three flags are decoded from PH, at most one is 1, and where the control word is an operation all three are 0
exactly in IDLE (10_state R30). -/
def Obligations.FlagsDecodePhase : Prop :=
  ∀ s : State, (s.busy = true ↔ 1 ≤ s.ph.toNat ∧ s.ph.toNat ≤ 8) ∧ (s.isDone = true ↔ s.ph = 9#4) ∧
    (s.isFault = true ↔ s.ph = 15#4) ∧ s.busy.toNat + s.isDone.toNat + s.isFault.toNat ≤ 1 ∧
    ∀ i, s.fetch = .ok i → ((s.busy = false ∧ s.isDone = false ∧ s.isFault = false) ↔ s.ph = 0#4)

/-- The state after reset: control state 0, all data state `unspecified`; the sequencer stands in IDLE and, with nothing
from the host, its step changes nothing (10_state R41). -/
def Obligations.ResetState : Prop :=
  let s := State.reset
  s.ph = 0#4 ∧ s.t = 0#7 ∧ s.blk = 0#55 ∧ s.busy = false ∧ s.isDone = false ∧ s.isFault = false ∧
  s.fcause = 0#2 ∧ s.mlen = 0#61 ∧ (∀ i : Fin 8, s.h[i] = .unspecified ∧ s.v[i] = .unspecified) ∧
  (∀ i : Fin 80, s.w[i] = .unspecified) ∧ (∀ sp a, (s.space sp).read a = none) ∧
  s.fetch = .ok .idle ∧ step s = .next s

/-- RESET in any phase, and on the same clock edge as a micro-operation, gives the state after reset; only the model's
own fields are kept (70_reset_and_hazards R230, 60_exceptions R207). -/
def Obligations.ResetInAnyPhase : Prop :=
  ∀ (s : State) (rest : List Turn),
    s.agenda = .host .reset :: rest ∨ s.agenda = .edge .reset :: rest →
    step s = .next { State.reset with cfg := s.cfg, draws := s.draws, agenda := rest, replies := s.replies }

/-- On one clock edge the micro-operation comes first and the host event, if it is not reset, after it: one step does
what a turn of the sequencer and then a turn of the host do (60_exceptions R207; log 13). -/
def Obligations.EdgeIsMicroOperationThenEvent : Prop :=
  ∀ (s : State) (e : HostEvent) (rest : List Turn), e ≠ .reset → s.agenda = .edge e :: rest →
    step s = steps 2 { s with agenda := .core :: .host e :: rest }

/-- FAULT is sticky: whatever turn comes, unless it is reset, PH stays 15 with FCAUSE and the data state as they are,
and with nothing from the host the state does not change (60_exceptions R209, R207). -/
def Obligations.FaultIsSticky : Prop :=
  ∀ s : State, s.ph = 15#4 → s.t = 0#7 →
    (s.agenda = [] → step s = .next s) ∧
    ∀ s', (∀ rest, s.agenda ≠ .host .reset :: rest ∧ s.agenda ≠ .edge .reset :: rest) → step s = .next s' →
      s'.ph = 15#4 ∧ s'.t = 0#7 ∧ s'.blk = s.blk ∧ s'.fcause = s.fcause ∧ s'.h = s.h ∧ s'.v = s.v ∧ s'.w = s.w ∧
      s'.pmb = s.pmb ∧ s'.dig = s.dig

/-- The digest is immutable once produced: in DONE every turn but a START or a reset leaves DIG and the phase as they are
(44_serializer R171, 10_state R38). They leave H as it is too: that is not in R171, but only reset and a START that
faults write H from DONE (45_sequencer R176, 10_state R43), and that H keeps its last value after a call at all is the
model's choice where the spec also allows `unspecified` (log 19; 93 U6, 45_sequencer R185). -/
def Obligations.DigestIsImmutableInDone : Prop :=
  ∀ s s' : State, s.ph = 9#4 → s.t = 0#7 →
    (∀ rest, s.agenda ≠ .host .reset :: rest ∧ s.agenda ≠ .edge .reset :: rest ∧
      s.agenda ≠ .host (.writeCtrl 1#1) :: rest ∧ s.agenda ≠ .edge (.writeCtrl 1#1) :: rest) →
    step s = .next s' → s'.ph = 9#4 ∧ s'.dig = s.dig ∧ s'.h = s.h

/-- The defensive checks: PAD's always passes, and PARSE raises INVARIANT exactly when its block does not lie within the
padded length (60_exceptions R205; log 11). -/
def Obligations.DefensiveChecks : Prop :=
  (∀ n, 0 < paddedLength n ∧ paddedLength n % 128 = 0) ∧
  (∀ s s' : State, exec .pad s = .next s' → s'.fcause = s.fcause) ∧
  ∀ s : State, s.ph ≠ 15#4 →
    (paddedLength s.n < 128 * s.blk.toNat + 128 ↔ exec .parse s = .next (s.raise 3#2))

/-! ## Whole-machine rules -/

/-- INVARIANT, kept by every step from every state that meets it: the control word is never reserved, BLK stays below N,
a call runs only on a message MSG can hold, FCAUSE is 0 exactly outside FAULT, and the memories stay canonical and
inside their spaces (45_sequencer R177, 10_state R32, 20_memory R69). -/
def Obligations.ControlInvariantIsKept : Prop :=
  ∀ s s' : State, s.ControlInv → step s = .next s' → s'.ControlInv

/-- INVARIANT, kept by every step: each phase finds written what it will read (10_state R40, R41, 70_reset R235). -/
def Obligations.WrittenBeforeReadIsKept : Prop :=
  ∀ s s' : State, s.DataInv → step s = .next s' → s'.DataInv

/-- The state after reset meets both invariants, whatever the open parameter is. -/
def Obligations.ResetMeetsTheInvariants : Prop :=
  ∀ cfg : Config, (State.resetWith cfg).ControlInv ∧ (State.resetWith cfg).DataInv

/-- On the documented domain nothing stops or faults: from every state that meets the invariant the sequencer's step
answers a next state with FCAUSE as it was (60_exceptions R200, R214). -/
def Obligations.CoreNeverFaults : Prop :=
  ∀ s : State, s.ControlInv → s.agenda = [] → ∃ s', step s = .next s' ∧ s'.fcause = s.fcause

/-- The next-state function of the sequencer as one table of (PH, T, BLK) (45_sequencer R177). -/
def Obligations.NextStateTable : Prop :=
  ∀ s s' : State, s.ControlInv → s.agenda = [] → step s = .next s' →
    (s'.ph, s'.t, s'.blk) =
      match s.ph.toNat with
      | 1 => (2#4, 0#7, 0#55)
      | 2 => (3#4, 0#7, 0#55)
      | 3 => (4#4, 16#7, s.blk)
      | 4 => if s.t.toNat < 79 then (4#4, s.t + 1#7, s.blk) else (5#4, 0#7, s.blk)
      | 5 => (6#4, 0#7, s.blk)
      | 6 => if s.t.toNat < 79 then (6#4, s.t + 1#7, s.blk) else (7#4, 0#7, s.blk)
      | 7 => if s.blk.toNat + 1 < blockCount s.n then (3#4, 0#7, s.blk + 1#55) else (8#4, 0#7, s.blk)
      | 8 => (9#4, 0#7, s.blk)
      | _ => (s.ph, s.t, s.blk)

/-- The access matrix for the operations of the core and START: which of them can write which state, outside the entry
into FAULT; MSG, MLEN, the parameters and the host's own fields are written by none (10_state R43, 20_memory R71). -/
def Obligations.AccessMatrix : Prop :=
  ∀ (i : Instr) (s s' : State), exec i s = .next s' →
    s'.msg = s.msg ∧ s'.mlen = s.mlen ∧ s'.cfg = s.cfg ∧ s'.agenda = s.agenda ∧ s'.replies = s.replies ∧
    (s'.fcause = s.fcause ∨ (s.isFault = false ∧ s'.isFault = true)) ∧
    ((s.isFault = false ∧ s'.isFault = true ∧ (i = .pad ∨ i = .parse ∨ i = .start)) ∨
      ((s'.h = s.h ∨ i = .seed ∨ i = .fold) ∧
       (s'.v = s.v ∨ i = .loadv ∨ ∃ t, i = .round t) ∧
       (s'.w = s.w ∨ i = .parse ∨ ∃ t, i = .sched t) ∧
       (s'.pmb = s.pmb ∨ i = .pad) ∧ (s'.dig = s.dig ∨ i = .start ∨ i = .serialize)))

/-- Control flow depends on MLEN alone: two states that differ only in data (MSG, PMB, DIG, W, H, a..h) and in what the
host has read take steps to states that again differ only in those (45_sequencer R183). -/
def Obligations.ControlFlowDependsOnLengthAlone : Prop :=
  ∀ s₁ s₂ s₁' : State, s₁.SameControl s₂ → step s₁ = .next s₁' →
    ∃ s₂', step s₂ = .next s₂' ∧ s₁'.SameControl s₂'

/-- Only PAD can meet storage nobody has written: in every state that meets the invariants, a step of the sequencer from
any phase but PAD gives the same next state whatever the next draws are (10_state R41, 70_reset R232, R233). -/
def Obligations.OnlyPadDraws : Prop :=
  ∀ (s s' : State) (k : Nat), s.ControlInv → s.DataInv → s.agenda = [] → s.ph ≠ 1#4 → step s = .next s' →
    ∃ k', step { s with draws := k } = .next { s' with draws := k' }

/-! ## Composites -/

/-- expand(block) is the unique 80-word sequence with the block's words and the recurrence (42_scheduler R152). -/
def Obligations.ExpandIsTheRecurrence : Prop :=
  ∀ (b : Vector Byte 128) (w : Vector Word 80),
    w = expand b ↔
      (∀ j : Fin 16, w[j.val] = blockWord b j) ∧
      ∀ (t : Nat) (_ : 16 ≤ t) (_ : t ≤ 79),
        w[t] = w[t - 16] + smallSigma0 w[t - 15] + w[t - 7] + smallSigma1 w[t - 2]

/-- EXPAND: 65 steps from PARSE leave expand(block) in W and change nothing else but pc (42_scheduler R152). -/
def Obligations.ExpandComposite : Prop :=
  ∀ (s : State) (b : Vector Byte 128), s.ph = 3#4 → s.t = 0#7 → s.agenda = [] →
    s.blk.toNat < blockCount s.n → s.n ≤ s.cfg.maxMsgBytes.toNat →
    (∀ k : Fin 128, s.pmb.read (128 * s.blk.toNat + k) = some b[k]) →
    ∃ k, steps 65 s = .next { s with w := wordFile (expand b), ph := 5#4, t := 0#7, draws := k }

/-- COMPRESS: 82 steps from LOADV leave compress(H, W) in H, with H and W as they were before, and write nothing else
but a..h and pc (43_compressor R163). -/
def Obligations.CompressComposite : Prop :=
  ∀ (s : State) (x : Vector Word 8) (y : Vector Word 80), s.ph = 5#4 → s.t = 0#7 → s.agenda = [] →
    s.h = wordFile x → s.w = wordFile y →
    ∃ v k, steps 82 s = .next { s with
      h := wordFile (compress x y)
      v := v
      ph := if s.blk.toNat + 1 < blockCount s.n then 3#4 else 8#4
      t := 0#7
      blk := if s.blk.toNat + 1 < blockCount s.n then s.blk + 1#55 else s.blk
      draws := k }

/-- HASH: from any state in IDLE or DONE, a START with the message in MSG and nothing more from the host ends, after the
3 + 147·N micro-operations, in DONE with DIG the digest of the message; MSG and MLEN are unchanged and what H, W, a..h,
PMB and DIG held before is of no influence (45_sequencer R180). -/
def Obligations.HashComposite : Prop :=
  ∀ (s : State) (n : Nat) (m : Vector Byte n), s.ph = 0#4 ∨ s.ph = 9#4 → s.agenda = [.host (.writeCtrl 1#1)] →
    s.HoldsMessage m → n ≤ s.cfg.maxMsgBytes.toNat →
    ∃ s', steps (1 + (3 + 147 * blockCount n)) s = .next s' ∧ s'.Final ∧
      (∀ a : Fin 64, s'.dig.read a = some (hashMessage m)[a]) ∧
      s'.msg = s.msg ∧ s'.mlen = s.mlen ∧ s'.fcause = s.fcause ∧ s'.replies = s.replies

/-- A call performs exactly 3 + 147·N micro-operations between the accepted START and DONE, whatever bytes MSG holds:
after START BUSY = 1 until that many have been performed, and then DONE = 1 (45_sequencer R181, R182). -/
def Obligations.CallTakesItsStepCount : Prop :=
  ∀ s : State, s.ph = 0#4 ∨ s.ph = 9#4 → s.agenda = [.host (.writeCtrl 1#1)] →
    s.n ≤ s.cfg.maxMsgBytes.toNat →
    (∀ k < 3 + 147 * blockCount s.n, ∃ s', steps (1 + k) s = .next s' ∧ s'.busy = true) ∧
    ∃ s', steps (1 + (3 + 147 * blockCount s.n)) s = .next s' ∧ s'.isDone = true
end

