-- ==== Sys2Proof/Laws/State.lean ====
section
/-! SUPPORT. One lemma per field per update of the state, and what the views of a state see of an update. -/

namespace Sys2Proof.Machine

variable (s : State)

@[simp] theorem State.setPc_h (p : BitVec 4) (x : BitVec 7) (b : BitVec 55) : (s.setPc p x b).h = s.h := rfl
@[simp] theorem State.setPc_v (p : BitVec 4) (x : BitVec 7) (b : BitVec 55) : (s.setPc p x b).v = s.v := rfl
@[simp] theorem State.setPc_w (p : BitVec 4) (x : BitVec 7) (b : BitVec 55) : (s.setPc p x b).w = s.w := rfl
@[simp] theorem State.setPc_ph (p : BitVec 4) (x : BitVec 7) (b : BitVec 55) : (s.setPc p x b).ph = p := rfl
@[simp] theorem State.setPc_t (p : BitVec 4) (x : BitVec 7) (b : BitVec 55) : (s.setPc p x b).t = x := rfl
@[simp] theorem State.setPc_blk (p : BitVec 4) (x : BitVec 7) (b : BitVec 55) : (s.setPc p x b).blk = b := rfl
@[simp] theorem State.setPc_fcause (p : BitVec 4) (x : BitVec 7) (b : BitVec 55) : (s.setPc p x b).fcause = s.fcause := rfl
@[simp] theorem State.setPc_mlen (p : BitVec 4) (x : BitVec 7) (b : BitVec 55) : (s.setPc p x b).mlen = s.mlen := rfl
@[simp] theorem State.setPc_msg (p : BitVec 4) (x : BitVec 7) (b : BitVec 55) : (s.setPc p x b).msg = s.msg := rfl
@[simp] theorem State.setPc_pmb (p : BitVec 4) (x : BitVec 7) (b : BitVec 55) : (s.setPc p x b).pmb = s.pmb := rfl
@[simp] theorem State.setPc_dig (p : BitVec 4) (x : BitVec 7) (b : BitVec 55) : (s.setPc p x b).dig = s.dig := rfl
@[simp] theorem State.setPc_cfg (p : BitVec 4) (x : BitVec 7) (b : BitVec 55) : (s.setPc p x b).cfg = s.cfg := rfl
@[simp] theorem State.setPc_draws (p : BitVec 4) (x : BitVec 7) (b : BitVec 55) : (s.setPc p x b).draws = s.draws := rfl
@[simp] theorem State.setPc_agenda (p : BitVec 4) (x : BitVec 7) (b : BitVec 55) : (s.setPc p x b).agenda = s.agenda := rfl
@[simp] theorem State.setPc_replies (p : BitVec 4) (x : BitVec 7) (b : BitVec 55) : (s.setPc p x b).replies = s.replies := rfl

@[simp] theorem State.setH_h (x : Vector Reg 8) : (s.setH x).h = x := rfl
@[simp] theorem State.setH_v (x : Vector Reg 8) : (s.setH x).v = s.v := rfl
@[simp] theorem State.setH_w (x : Vector Reg 8) : (s.setH x).w = s.w := rfl
@[simp] theorem State.setH_ph (x : Vector Reg 8) : (s.setH x).ph = s.ph := rfl
@[simp] theorem State.setH_t (x : Vector Reg 8) : (s.setH x).t = s.t := rfl
@[simp] theorem State.setH_blk (x : Vector Reg 8) : (s.setH x).blk = s.blk := rfl
@[simp] theorem State.setH_fcause (x : Vector Reg 8) : (s.setH x).fcause = s.fcause := rfl
@[simp] theorem State.setH_mlen (x : Vector Reg 8) : (s.setH x).mlen = s.mlen := rfl
@[simp] theorem State.setH_msg (x : Vector Reg 8) : (s.setH x).msg = s.msg := rfl
@[simp] theorem State.setH_pmb (x : Vector Reg 8) : (s.setH x).pmb = s.pmb := rfl
@[simp] theorem State.setH_dig (x : Vector Reg 8) : (s.setH x).dig = s.dig := rfl
@[simp] theorem State.setH_cfg (x : Vector Reg 8) : (s.setH x).cfg = s.cfg := rfl
@[simp] theorem State.setH_draws (x : Vector Reg 8) : (s.setH x).draws = s.draws := rfl
@[simp] theorem State.setH_agenda (x : Vector Reg 8) : (s.setH x).agenda = s.agenda := rfl
@[simp] theorem State.setH_replies (x : Vector Reg 8) : (s.setH x).replies = s.replies := rfl

@[simp] theorem State.setV_h (x : Vector Reg 8) : (s.setV x).h = s.h := rfl
@[simp] theorem State.setV_v (x : Vector Reg 8) : (s.setV x).v = x := rfl
@[simp] theorem State.setV_w (x : Vector Reg 8) : (s.setV x).w = s.w := rfl
@[simp] theorem State.setV_ph (x : Vector Reg 8) : (s.setV x).ph = s.ph := rfl
@[simp] theorem State.setV_t (x : Vector Reg 8) : (s.setV x).t = s.t := rfl
@[simp] theorem State.setV_blk (x : Vector Reg 8) : (s.setV x).blk = s.blk := rfl
@[simp] theorem State.setV_fcause (x : Vector Reg 8) : (s.setV x).fcause = s.fcause := rfl
@[simp] theorem State.setV_mlen (x : Vector Reg 8) : (s.setV x).mlen = s.mlen := rfl
@[simp] theorem State.setV_msg (x : Vector Reg 8) : (s.setV x).msg = s.msg := rfl
@[simp] theorem State.setV_pmb (x : Vector Reg 8) : (s.setV x).pmb = s.pmb := rfl
@[simp] theorem State.setV_dig (x : Vector Reg 8) : (s.setV x).dig = s.dig := rfl
@[simp] theorem State.setV_cfg (x : Vector Reg 8) : (s.setV x).cfg = s.cfg := rfl
@[simp] theorem State.setV_draws (x : Vector Reg 8) : (s.setV x).draws = s.draws := rfl
@[simp] theorem State.setV_agenda (x : Vector Reg 8) : (s.setV x).agenda = s.agenda := rfl
@[simp] theorem State.setV_replies (x : Vector Reg 8) : (s.setV x).replies = s.replies := rfl

@[simp] theorem State.setW_h (x : Vector Reg 80) : (s.setW x).h = s.h := rfl
@[simp] theorem State.setW_v (x : Vector Reg 80) : (s.setW x).v = s.v := rfl
@[simp] theorem State.setW_w (x : Vector Reg 80) : (s.setW x).w = x := rfl
@[simp] theorem State.setW_ph (x : Vector Reg 80) : (s.setW x).ph = s.ph := rfl
@[simp] theorem State.setW_t (x : Vector Reg 80) : (s.setW x).t = s.t := rfl
@[simp] theorem State.setW_blk (x : Vector Reg 80) : (s.setW x).blk = s.blk := rfl
@[simp] theorem State.setW_fcause (x : Vector Reg 80) : (s.setW x).fcause = s.fcause := rfl
@[simp] theorem State.setW_mlen (x : Vector Reg 80) : (s.setW x).mlen = s.mlen := rfl
@[simp] theorem State.setW_msg (x : Vector Reg 80) : (s.setW x).msg = s.msg := rfl
@[simp] theorem State.setW_pmb (x : Vector Reg 80) : (s.setW x).pmb = s.pmb := rfl
@[simp] theorem State.setW_dig (x : Vector Reg 80) : (s.setW x).dig = s.dig := rfl
@[simp] theorem State.setW_cfg (x : Vector Reg 80) : (s.setW x).cfg = s.cfg := rfl
@[simp] theorem State.setW_draws (x : Vector Reg 80) : (s.setW x).draws = s.draws := rfl
@[simp] theorem State.setW_agenda (x : Vector Reg 80) : (s.setW x).agenda = s.agenda := rfl
@[simp] theorem State.setW_replies (x : Vector Reg 80) : (s.setW x).replies = s.replies := rfl

@[simp] theorem State.setFcause_h (c : BitVec 2) : (s.setFcause c).h = s.h := rfl
@[simp] theorem State.setFcause_v (c : BitVec 2) : (s.setFcause c).v = s.v := rfl
@[simp] theorem State.setFcause_w (c : BitVec 2) : (s.setFcause c).w = s.w := rfl
@[simp] theorem State.setFcause_ph (c : BitVec 2) : (s.setFcause c).ph = s.ph := rfl
@[simp] theorem State.setFcause_t (c : BitVec 2) : (s.setFcause c).t = s.t := rfl
@[simp] theorem State.setFcause_blk (c : BitVec 2) : (s.setFcause c).blk = s.blk := rfl
@[simp] theorem State.setFcause_fcause (c : BitVec 2) : (s.setFcause c).fcause = c := rfl
@[simp] theorem State.setFcause_mlen (c : BitVec 2) : (s.setFcause c).mlen = s.mlen := rfl
@[simp] theorem State.setFcause_msg (c : BitVec 2) : (s.setFcause c).msg = s.msg := rfl
@[simp] theorem State.setFcause_pmb (c : BitVec 2) : (s.setFcause c).pmb = s.pmb := rfl
@[simp] theorem State.setFcause_dig (c : BitVec 2) : (s.setFcause c).dig = s.dig := rfl
@[simp] theorem State.setFcause_cfg (c : BitVec 2) : (s.setFcause c).cfg = s.cfg := rfl
@[simp] theorem State.setFcause_draws (c : BitVec 2) : (s.setFcause c).draws = s.draws := rfl
@[simp] theorem State.setFcause_agenda (c : BitVec 2) : (s.setFcause c).agenda = s.agenda := rfl
@[simp] theorem State.setFcause_replies (c : BitVec 2) : (s.setFcause c).replies = s.replies := rfl

@[simp] theorem State.setMlen_h (n : BitVec 61) : (s.setMlen n).h = s.h := rfl
@[simp] theorem State.setMlen_v (n : BitVec 61) : (s.setMlen n).v = s.v := rfl
@[simp] theorem State.setMlen_w (n : BitVec 61) : (s.setMlen n).w = s.w := rfl
@[simp] theorem State.setMlen_ph (n : BitVec 61) : (s.setMlen n).ph = s.ph := rfl
@[simp] theorem State.setMlen_t (n : BitVec 61) : (s.setMlen n).t = s.t := rfl
@[simp] theorem State.setMlen_blk (n : BitVec 61) : (s.setMlen n).blk = s.blk := rfl
@[simp] theorem State.setMlen_fcause (n : BitVec 61) : (s.setMlen n).fcause = s.fcause := rfl
@[simp] theorem State.setMlen_mlen (n : BitVec 61) : (s.setMlen n).mlen = n := rfl
@[simp] theorem State.setMlen_msg (n : BitVec 61) : (s.setMlen n).msg = s.msg := rfl
@[simp] theorem State.setMlen_pmb (n : BitVec 61) : (s.setMlen n).pmb = s.pmb := rfl
@[simp] theorem State.setMlen_dig (n : BitVec 61) : (s.setMlen n).dig = s.dig := rfl
@[simp] theorem State.setMlen_cfg (n : BitVec 61) : (s.setMlen n).cfg = s.cfg := rfl
@[simp] theorem State.setMlen_draws (n : BitVec 61) : (s.setMlen n).draws = s.draws := rfl
@[simp] theorem State.setMlen_agenda (n : BitVec 61) : (s.setMlen n).agenda = s.agenda := rfl
@[simp] theorem State.setMlen_replies (n : BitVec 61) : (s.setMlen n).replies = s.replies := rfl

@[simp] theorem State.setMsg_h (m : Memory) : (s.setMsg m).h = s.h := rfl
@[simp] theorem State.setMsg_v (m : Memory) : (s.setMsg m).v = s.v := rfl
@[simp] theorem State.setMsg_w (m : Memory) : (s.setMsg m).w = s.w := rfl
@[simp] theorem State.setMsg_ph (m : Memory) : (s.setMsg m).ph = s.ph := rfl
@[simp] theorem State.setMsg_t (m : Memory) : (s.setMsg m).t = s.t := rfl
@[simp] theorem State.setMsg_blk (m : Memory) : (s.setMsg m).blk = s.blk := rfl
@[simp] theorem State.setMsg_fcause (m : Memory) : (s.setMsg m).fcause = s.fcause := rfl
@[simp] theorem State.setMsg_mlen (m : Memory) : (s.setMsg m).mlen = s.mlen := rfl
@[simp] theorem State.setMsg_msg (m : Memory) : (s.setMsg m).msg = m := rfl
@[simp] theorem State.setMsg_pmb (m : Memory) : (s.setMsg m).pmb = s.pmb := rfl
@[simp] theorem State.setMsg_dig (m : Memory) : (s.setMsg m).dig = s.dig := rfl
@[simp] theorem State.setMsg_cfg (m : Memory) : (s.setMsg m).cfg = s.cfg := rfl
@[simp] theorem State.setMsg_draws (m : Memory) : (s.setMsg m).draws = s.draws := rfl
@[simp] theorem State.setMsg_agenda (m : Memory) : (s.setMsg m).agenda = s.agenda := rfl
@[simp] theorem State.setMsg_replies (m : Memory) : (s.setMsg m).replies = s.replies := rfl

@[simp] theorem State.setPmb_h (m : Memory) : (s.setPmb m).h = s.h := rfl
@[simp] theorem State.setPmb_v (m : Memory) : (s.setPmb m).v = s.v := rfl
@[simp] theorem State.setPmb_w (m : Memory) : (s.setPmb m).w = s.w := rfl
@[simp] theorem State.setPmb_ph (m : Memory) : (s.setPmb m).ph = s.ph := rfl
@[simp] theorem State.setPmb_t (m : Memory) : (s.setPmb m).t = s.t := rfl
@[simp] theorem State.setPmb_blk (m : Memory) : (s.setPmb m).blk = s.blk := rfl
@[simp] theorem State.setPmb_fcause (m : Memory) : (s.setPmb m).fcause = s.fcause := rfl
@[simp] theorem State.setPmb_mlen (m : Memory) : (s.setPmb m).mlen = s.mlen := rfl
@[simp] theorem State.setPmb_msg (m : Memory) : (s.setPmb m).msg = s.msg := rfl
@[simp] theorem State.setPmb_pmb (m : Memory) : (s.setPmb m).pmb = m := rfl
@[simp] theorem State.setPmb_dig (m : Memory) : (s.setPmb m).dig = s.dig := rfl
@[simp] theorem State.setPmb_cfg (m : Memory) : (s.setPmb m).cfg = s.cfg := rfl
@[simp] theorem State.setPmb_draws (m : Memory) : (s.setPmb m).draws = s.draws := rfl
@[simp] theorem State.setPmb_agenda (m : Memory) : (s.setPmb m).agenda = s.agenda := rfl
@[simp] theorem State.setPmb_replies (m : Memory) : (s.setPmb m).replies = s.replies := rfl

@[simp] theorem State.setDig_h (m : Memory) : (s.setDig m).h = s.h := rfl
@[simp] theorem State.setDig_v (m : Memory) : (s.setDig m).v = s.v := rfl
@[simp] theorem State.setDig_w (m : Memory) : (s.setDig m).w = s.w := rfl
@[simp] theorem State.setDig_ph (m : Memory) : (s.setDig m).ph = s.ph := rfl
@[simp] theorem State.setDig_t (m : Memory) : (s.setDig m).t = s.t := rfl
@[simp] theorem State.setDig_blk (m : Memory) : (s.setDig m).blk = s.blk := rfl
@[simp] theorem State.setDig_fcause (m : Memory) : (s.setDig m).fcause = s.fcause := rfl
@[simp] theorem State.setDig_mlen (m : Memory) : (s.setDig m).mlen = s.mlen := rfl
@[simp] theorem State.setDig_msg (m : Memory) : (s.setDig m).msg = s.msg := rfl
@[simp] theorem State.setDig_pmb (m : Memory) : (s.setDig m).pmb = s.pmb := rfl
@[simp] theorem State.setDig_dig (m : Memory) : (s.setDig m).dig = m := rfl
@[simp] theorem State.setDig_cfg (m : Memory) : (s.setDig m).cfg = s.cfg := rfl
@[simp] theorem State.setDig_draws (m : Memory) : (s.setDig m).draws = s.draws := rfl
@[simp] theorem State.setDig_agenda (m : Memory) : (s.setDig m).agenda = s.agenda := rfl
@[simp] theorem State.setDig_replies (m : Memory) : (s.setDig m).replies = s.replies := rfl

@[simp] theorem State.setAgenda_h (l : List Turn) : (s.setAgenda l).h = s.h := rfl
@[simp] theorem State.setAgenda_v (l : List Turn) : (s.setAgenda l).v = s.v := rfl
@[simp] theorem State.setAgenda_w (l : List Turn) : (s.setAgenda l).w = s.w := rfl
@[simp] theorem State.setAgenda_ph (l : List Turn) : (s.setAgenda l).ph = s.ph := rfl
@[simp] theorem State.setAgenda_t (l : List Turn) : (s.setAgenda l).t = s.t := rfl
@[simp] theorem State.setAgenda_blk (l : List Turn) : (s.setAgenda l).blk = s.blk := rfl
@[simp] theorem State.setAgenda_fcause (l : List Turn) : (s.setAgenda l).fcause = s.fcause := rfl
@[simp] theorem State.setAgenda_mlen (l : List Turn) : (s.setAgenda l).mlen = s.mlen := rfl
@[simp] theorem State.setAgenda_msg (l : List Turn) : (s.setAgenda l).msg = s.msg := rfl
@[simp] theorem State.setAgenda_pmb (l : List Turn) : (s.setAgenda l).pmb = s.pmb := rfl
@[simp] theorem State.setAgenda_dig (l : List Turn) : (s.setAgenda l).dig = s.dig := rfl
@[simp] theorem State.setAgenda_cfg (l : List Turn) : (s.setAgenda l).cfg = s.cfg := rfl
@[simp] theorem State.setAgenda_draws (l : List Turn) : (s.setAgenda l).draws = s.draws := rfl
@[simp] theorem State.setAgenda_agenda (l : List Turn) : (s.setAgenda l).agenda = l := rfl
@[simp] theorem State.setAgenda_replies (l : List Turn) : (s.setAgenda l).replies = s.replies := rfl

@[simp] theorem State.addDraws_h (k : Nat) : (s.addDraws k).h = s.h := rfl
@[simp] theorem State.addDraws_v (k : Nat) : (s.addDraws k).v = s.v := rfl
@[simp] theorem State.addDraws_w (k : Nat) : (s.addDraws k).w = s.w := rfl
@[simp] theorem State.addDraws_ph (k : Nat) : (s.addDraws k).ph = s.ph := rfl
@[simp] theorem State.addDraws_t (k : Nat) : (s.addDraws k).t = s.t := rfl
@[simp] theorem State.addDraws_blk (k : Nat) : (s.addDraws k).blk = s.blk := rfl
@[simp] theorem State.addDraws_fcause (k : Nat) : (s.addDraws k).fcause = s.fcause := rfl
@[simp] theorem State.addDraws_mlen (k : Nat) : (s.addDraws k).mlen = s.mlen := rfl
@[simp] theorem State.addDraws_msg (k : Nat) : (s.addDraws k).msg = s.msg := rfl
@[simp] theorem State.addDraws_pmb (k : Nat) : (s.addDraws k).pmb = s.pmb := rfl
@[simp] theorem State.addDraws_dig (k : Nat) : (s.addDraws k).dig = s.dig := rfl
@[simp] theorem State.addDraws_cfg (k : Nat) : (s.addDraws k).cfg = s.cfg := rfl
@[simp] theorem State.addDraws_draws (k : Nat) : (s.addDraws k).draws = s.draws + k := rfl
@[simp] theorem State.addDraws_agenda (k : Nat) : (s.addDraws k).agenda = s.agenda := rfl
@[simp] theorem State.addDraws_replies (k : Nat) : (s.addDraws k).replies = s.replies := rfl

@[simp] theorem State.addReply_h (r : Reply) : (s.addReply r).h = s.h := rfl
@[simp] theorem State.addReply_v (r : Reply) : (s.addReply r).v = s.v := rfl
@[simp] theorem State.addReply_w (r : Reply) : (s.addReply r).w = s.w := rfl
@[simp] theorem State.addReply_ph (r : Reply) : (s.addReply r).ph = s.ph := rfl
@[simp] theorem State.addReply_t (r : Reply) : (s.addReply r).t = s.t := rfl
@[simp] theorem State.addReply_blk (r : Reply) : (s.addReply r).blk = s.blk := rfl
@[simp] theorem State.addReply_fcause (r : Reply) : (s.addReply r).fcause = s.fcause := rfl
@[simp] theorem State.addReply_mlen (r : Reply) : (s.addReply r).mlen = s.mlen := rfl
@[simp] theorem State.addReply_msg (r : Reply) : (s.addReply r).msg = s.msg := rfl
@[simp] theorem State.addReply_pmb (r : Reply) : (s.addReply r).pmb = s.pmb := rfl
@[simp] theorem State.addReply_dig (r : Reply) : (s.addReply r).dig = s.dig := rfl
@[simp] theorem State.addReply_cfg (r : Reply) : (s.addReply r).cfg = s.cfg := rfl
@[simp] theorem State.addReply_draws (r : Reply) : (s.addReply r).draws = s.draws := rfl
@[simp] theorem State.addReply_agenda (r : Reply) : (s.addReply r).agenda = s.agenda := rfl
@[simp] theorem State.addReply_replies (r : Reply) : (s.addReply r).replies = r :: s.replies := rfl

@[simp] theorem State.setPc_n (p : BitVec 4) (x : BitVec 7) (b : BitVec 55) : (s.setPc p x b).n = s.n := rfl
@[simp] theorem State.setPc_size (p : BitVec 4) (x : BitVec 7) (b : BitVec 55) (sp : Space) : (s.setPc p x b).size sp = s.size sp := by cases sp <;> rfl
@[simp] theorem State.setPc_space (p : BitVec 4) (x : BitVec 7) (b : BitVec 55) (sp : Space) : (s.setPc p x b).space sp = s.space sp := by cases sp <;> rfl

@[simp] theorem State.setH_n (x : Vector Reg 8) : (s.setH x).n = s.n := rfl
@[simp] theorem State.setH_size (x : Vector Reg 8) (sp : Space) : (s.setH x).size sp = s.size sp := by cases sp <;> rfl
@[simp] theorem State.setH_busy (x : Vector Reg 8) : (s.setH x).busy = s.busy := rfl
@[simp] theorem State.setH_isDone (x : Vector Reg 8) : (s.setH x).isDone = s.isDone := rfl
@[simp] theorem State.setH_isFault (x : Vector Reg 8) : (s.setH x).isFault = s.isFault := rfl
@[simp] theorem State.setH_controlWord (x : Vector Reg 8) : (s.setH x).controlWord = s.controlWord := rfl
@[simp] theorem State.setH_fetch (x : Vector Reg 8) : (s.setH x).fetch = s.fetch := rfl
@[simp] theorem State.setH_blockAddr (x : Vector Reg 8) : (s.setH x).blockAddr = s.blockAddr := rfl
@[simp] theorem State.setH_space (x : Vector Reg 8) (sp : Space) : (s.setH x).space sp = s.space sp := by cases sp <;> rfl

@[simp] theorem State.setV_n (x : Vector Reg 8) : (s.setV x).n = s.n := rfl
@[simp] theorem State.setV_size (x : Vector Reg 8) (sp : Space) : (s.setV x).size sp = s.size sp := by cases sp <;> rfl
@[simp] theorem State.setV_busy (x : Vector Reg 8) : (s.setV x).busy = s.busy := rfl
@[simp] theorem State.setV_isDone (x : Vector Reg 8) : (s.setV x).isDone = s.isDone := rfl
@[simp] theorem State.setV_isFault (x : Vector Reg 8) : (s.setV x).isFault = s.isFault := rfl
@[simp] theorem State.setV_controlWord (x : Vector Reg 8) : (s.setV x).controlWord = s.controlWord := rfl
@[simp] theorem State.setV_fetch (x : Vector Reg 8) : (s.setV x).fetch = s.fetch := rfl
@[simp] theorem State.setV_blockAddr (x : Vector Reg 8) : (s.setV x).blockAddr = s.blockAddr := rfl
@[simp] theorem State.setV_space (x : Vector Reg 8) (sp : Space) : (s.setV x).space sp = s.space sp := by cases sp <;> rfl

@[simp] theorem State.setW_n (x : Vector Reg 80) : (s.setW x).n = s.n := rfl
@[simp] theorem State.setW_size (x : Vector Reg 80) (sp : Space) : (s.setW x).size sp = s.size sp := by cases sp <;> rfl
@[simp] theorem State.setW_busy (x : Vector Reg 80) : (s.setW x).busy = s.busy := rfl
@[simp] theorem State.setW_isDone (x : Vector Reg 80) : (s.setW x).isDone = s.isDone := rfl
@[simp] theorem State.setW_isFault (x : Vector Reg 80) : (s.setW x).isFault = s.isFault := rfl
@[simp] theorem State.setW_controlWord (x : Vector Reg 80) : (s.setW x).controlWord = s.controlWord := rfl
@[simp] theorem State.setW_fetch (x : Vector Reg 80) : (s.setW x).fetch = s.fetch := rfl
@[simp] theorem State.setW_blockAddr (x : Vector Reg 80) : (s.setW x).blockAddr = s.blockAddr := rfl
@[simp] theorem State.setW_space (x : Vector Reg 80) (sp : Space) : (s.setW x).space sp = s.space sp := by cases sp <;> rfl

@[simp] theorem State.setFcause_n (c : BitVec 2) : (s.setFcause c).n = s.n := rfl
@[simp] theorem State.setFcause_size (c : BitVec 2) (sp : Space) : (s.setFcause c).size sp = s.size sp := by cases sp <;> rfl
@[simp] theorem State.setFcause_busy (c : BitVec 2) : (s.setFcause c).busy = s.busy := rfl
@[simp] theorem State.setFcause_isDone (c : BitVec 2) : (s.setFcause c).isDone = s.isDone := rfl
@[simp] theorem State.setFcause_isFault (c : BitVec 2) : (s.setFcause c).isFault = s.isFault := rfl
@[simp] theorem State.setFcause_controlWord (c : BitVec 2) : (s.setFcause c).controlWord = s.controlWord := rfl
@[simp] theorem State.setFcause_fetch (c : BitVec 2) : (s.setFcause c).fetch = s.fetch := rfl
@[simp] theorem State.setFcause_blockAddr (c : BitVec 2) : (s.setFcause c).blockAddr = s.blockAddr := rfl
@[simp] theorem State.setFcause_space (c : BitVec 2) (sp : Space) : (s.setFcause c).space sp = s.space sp := by cases sp <;> rfl

@[simp] theorem State.setMlen_size (n : BitVec 61) (sp : Space) : (s.setMlen n).size sp = s.size sp := by cases sp <;> rfl
@[simp] theorem State.setMlen_busy (n : BitVec 61) : (s.setMlen n).busy = s.busy := rfl
@[simp] theorem State.setMlen_isDone (n : BitVec 61) : (s.setMlen n).isDone = s.isDone := rfl
@[simp] theorem State.setMlen_isFault (n : BitVec 61) : (s.setMlen n).isFault = s.isFault := rfl
@[simp] theorem State.setMlen_controlWord (n : BitVec 61) : (s.setMlen n).controlWord = s.controlWord := rfl
@[simp] theorem State.setMlen_fetch (n : BitVec 61) : (s.setMlen n).fetch = s.fetch := rfl
@[simp] theorem State.setMlen_blockAddr (n : BitVec 61) : (s.setMlen n).blockAddr = s.blockAddr := rfl
@[simp] theorem State.setMlen_space (n : BitVec 61) (sp : Space) : (s.setMlen n).space sp = s.space sp := by cases sp <;> rfl

@[simp] theorem State.setMsg_n (m : Memory) : (s.setMsg m).n = s.n := rfl
@[simp] theorem State.setMsg_size (m : Memory) (sp : Space) : (s.setMsg m).size sp = s.size sp := by cases sp <;> rfl
@[simp] theorem State.setMsg_busy (m : Memory) : (s.setMsg m).busy = s.busy := rfl
@[simp] theorem State.setMsg_isDone (m : Memory) : (s.setMsg m).isDone = s.isDone := rfl
@[simp] theorem State.setMsg_isFault (m : Memory) : (s.setMsg m).isFault = s.isFault := rfl
@[simp] theorem State.setMsg_controlWord (m : Memory) : (s.setMsg m).controlWord = s.controlWord := rfl
@[simp] theorem State.setMsg_fetch (m : Memory) : (s.setMsg m).fetch = s.fetch := rfl
@[simp] theorem State.setMsg_blockAddr (m : Memory) : (s.setMsg m).blockAddr = s.blockAddr := rfl

@[simp] theorem State.setPmb_n (m : Memory) : (s.setPmb m).n = s.n := rfl
@[simp] theorem State.setPmb_size (m : Memory) (sp : Space) : (s.setPmb m).size sp = s.size sp := by cases sp <;> rfl
@[simp] theorem State.setPmb_busy (m : Memory) : (s.setPmb m).busy = s.busy := rfl
@[simp] theorem State.setPmb_isDone (m : Memory) : (s.setPmb m).isDone = s.isDone := rfl
@[simp] theorem State.setPmb_isFault (m : Memory) : (s.setPmb m).isFault = s.isFault := rfl
@[simp] theorem State.setPmb_controlWord (m : Memory) : (s.setPmb m).controlWord = s.controlWord := rfl
@[simp] theorem State.setPmb_fetch (m : Memory) : (s.setPmb m).fetch = s.fetch := rfl
@[simp] theorem State.setPmb_blockAddr (m : Memory) : (s.setPmb m).blockAddr = s.blockAddr := rfl

@[simp] theorem State.setDig_n (m : Memory) : (s.setDig m).n = s.n := rfl
@[simp] theorem State.setDig_size (m : Memory) (sp : Space) : (s.setDig m).size sp = s.size sp := by cases sp <;> rfl
@[simp] theorem State.setDig_busy (m : Memory) : (s.setDig m).busy = s.busy := rfl
@[simp] theorem State.setDig_isDone (m : Memory) : (s.setDig m).isDone = s.isDone := rfl
@[simp] theorem State.setDig_isFault (m : Memory) : (s.setDig m).isFault = s.isFault := rfl
@[simp] theorem State.setDig_controlWord (m : Memory) : (s.setDig m).controlWord = s.controlWord := rfl
@[simp] theorem State.setDig_fetch (m : Memory) : (s.setDig m).fetch = s.fetch := rfl
@[simp] theorem State.setDig_blockAddr (m : Memory) : (s.setDig m).blockAddr = s.blockAddr := rfl

@[simp] theorem State.setAgenda_n (l : List Turn) : (s.setAgenda l).n = s.n := rfl
@[simp] theorem State.setAgenda_size (l : List Turn) (sp : Space) : (s.setAgenda l).size sp = s.size sp := by cases sp <;> rfl
@[simp] theorem State.setAgenda_busy (l : List Turn) : (s.setAgenda l).busy = s.busy := rfl
@[simp] theorem State.setAgenda_isDone (l : List Turn) : (s.setAgenda l).isDone = s.isDone := rfl
@[simp] theorem State.setAgenda_isFault (l : List Turn) : (s.setAgenda l).isFault = s.isFault := rfl
@[simp] theorem State.setAgenda_controlWord (l : List Turn) : (s.setAgenda l).controlWord = s.controlWord := rfl
@[simp] theorem State.setAgenda_fetch (l : List Turn) : (s.setAgenda l).fetch = s.fetch := rfl
@[simp] theorem State.setAgenda_blockAddr (l : List Turn) : (s.setAgenda l).blockAddr = s.blockAddr := rfl
@[simp] theorem State.setAgenda_space (l : List Turn) (sp : Space) : (s.setAgenda l).space sp = s.space sp := by cases sp <;> rfl

@[simp] theorem State.addDraws_n (k : Nat) : (s.addDraws k).n = s.n := rfl
@[simp] theorem State.addDraws_size (k : Nat) (sp : Space) : (s.addDraws k).size sp = s.size sp := by cases sp <;> rfl
@[simp] theorem State.addDraws_busy (k : Nat) : (s.addDraws k).busy = s.busy := rfl
@[simp] theorem State.addDraws_isDone (k : Nat) : (s.addDraws k).isDone = s.isDone := rfl
@[simp] theorem State.addDraws_isFault (k : Nat) : (s.addDraws k).isFault = s.isFault := rfl
@[simp] theorem State.addDraws_controlWord (k : Nat) : (s.addDraws k).controlWord = s.controlWord := rfl
@[simp] theorem State.addDraws_fetch (k : Nat) : (s.addDraws k).fetch = s.fetch := rfl
@[simp] theorem State.addDraws_blockAddr (k : Nat) : (s.addDraws k).blockAddr = s.blockAddr := rfl
@[simp] theorem State.addDraws_space (k : Nat) (sp : Space) : (s.addDraws k).space sp = s.space sp := by cases sp <;> rfl

@[simp] theorem State.addReply_n (r : Reply) : (s.addReply r).n = s.n := rfl
@[simp] theorem State.addReply_size (r : Reply) (sp : Space) : (s.addReply r).size sp = s.size sp := by cases sp <;> rfl
@[simp] theorem State.addReply_busy (r : Reply) : (s.addReply r).busy = s.busy := rfl
@[simp] theorem State.addReply_isDone (r : Reply) : (s.addReply r).isDone = s.isDone := rfl
@[simp] theorem State.addReply_isFault (r : Reply) : (s.addReply r).isFault = s.isFault := rfl
@[simp] theorem State.addReply_controlWord (r : Reply) : (s.addReply r).controlWord = s.controlWord := rfl
@[simp] theorem State.addReply_fetch (r : Reply) : (s.addReply r).fetch = s.fetch := rfl
@[simp] theorem State.addReply_blockAddr (r : Reply) : (s.addReply r).blockAddr = s.blockAddr := rfl
@[simp] theorem State.addReply_space (r : Reply) (sp : Space) : (s.addReply r).space sp = s.space sp := by cases sp <;> rfl

@[simp] theorem State.setPc_cell (p : BitVec 4) (x : BitVec 7) (b : BitVec 55) (sp : Space) (y k : Nat) : (s.setPc p x b).cell sp y k = s.cell sp y k := by cases sp <;> rfl
@[simp] theorem State.setH_cell (x : Vector Reg 8) (sp : Space) (y k : Nat) : (s.setH x).cell sp y k = s.cell sp y k := by cases sp <;> rfl
@[simp] theorem State.setV_cell (x : Vector Reg 8) (sp : Space) (y k : Nat) : (s.setV x).cell sp y k = s.cell sp y k := by cases sp <;> rfl
@[simp] theorem State.setW_cell (x : Vector Reg 80) (sp : Space) (y k : Nat) : (s.setW x).cell sp y k = s.cell sp y k := by cases sp <;> rfl
@[simp] theorem State.setFcause_cell (c : BitVec 2) (sp : Space) (y k : Nat) : (s.setFcause c).cell sp y k = s.cell sp y k := by cases sp <;> rfl
@[simp] theorem State.setMlen_cell (n : BitVec 61) (sp : Space) (y k : Nat) : (s.setMlen n).cell sp y k = s.cell sp y k := by cases sp <;> rfl
@[simp] theorem State.setAgenda_cell (l : List Turn) (sp : Space) (y k : Nat) : (s.setAgenda l).cell sp y k = s.cell sp y k := by cases sp <;> rfl
@[simp] theorem State.addDraws_cell (i : Nat) (sp : Space) (y k : Nat) : (s.addDraws i).cell sp y k = s.cell sp y k := by cases sp <;> rfl
@[simp] theorem State.addReply_cell (r : Reply) (sp : Space) (y k : Nat) : (s.addReply r).cell sp y k = s.cell sp y k := by cases sp <;> rfl

@[simp] theorem State.space_msg : s.space .msg = s.msg := rfl
@[simp] theorem State.space_pmb : s.space .pmb = s.pmb := rfl
@[simp] theorem State.space_dig : s.space .dig = s.dig := rfl
@[simp] theorem State.setSpace_msg (m : Memory) : s.setSpace .msg m = s.setMsg m := rfl
@[simp] theorem State.setSpace_pmb (m : Memory) : s.setSpace .pmb m = s.setPmb m := rfl
@[simp] theorem State.setSpace_dig (m : Memory) : s.setSpace .dig m = s.setDig m := rfl
@[simp] theorem State.size_dig : s.size .dig = 64 := rfl
theorem State.size_msg : s.size .msg = s.cfg.maxMsgBytes.toNat := rfl
theorem State.size_pmb : s.size .pmb = 128 * ((s.cfg.maxMsgBytes.toNat + 17 + 127) / 128) := rfl

@[simp] theorem State.dropData_h : s.dropData.h = unspecifiedFile 8 := rfl
@[simp] theorem State.dropData_v : s.dropData.v = unspecifiedFile 8 := rfl
@[simp] theorem State.dropData_w : s.dropData.w = unspecifiedFile 80 := rfl
@[simp] theorem State.dropData_ph : s.dropData.ph = s.ph := rfl
@[simp] theorem State.dropData_t : s.dropData.t = s.t := rfl
@[simp] theorem State.dropData_blk : s.dropData.blk = s.blk := rfl
@[simp] theorem State.dropData_fcause : s.dropData.fcause = s.fcause := rfl
@[simp] theorem State.dropData_mlen : s.dropData.mlen = s.mlen := rfl
@[simp] theorem State.dropData_msg : s.dropData.msg = s.msg := rfl
@[simp] theorem State.dropData_pmb : s.dropData.pmb = [] := rfl
@[simp] theorem State.dropData_dig : s.dropData.dig = [] := rfl
@[simp] theorem State.dropData_cfg : s.dropData.cfg = s.cfg := rfl
@[simp] theorem State.dropData_draws : s.dropData.draws = s.draws := rfl
@[simp] theorem State.dropData_agenda : s.dropData.agenda = s.agenda := rfl
@[simp] theorem State.dropData_replies : s.dropData.replies = s.replies := rfl

@[simp] theorem State.resetNow_h : s.resetNow.h = unspecifiedFile 8 := rfl
@[simp] theorem State.resetNow_v : s.resetNow.v = unspecifiedFile 8 := rfl
@[simp] theorem State.resetNow_w : s.resetNow.w = unspecifiedFile 80 := rfl
@[simp] theorem State.resetNow_ph : s.resetNow.ph = phIdle := rfl
@[simp] theorem State.resetNow_t : s.resetNow.t = 0#7 := rfl
@[simp] theorem State.resetNow_blk : s.resetNow.blk = 0#55 := rfl
@[simp] theorem State.resetNow_fcause : s.resetNow.fcause = causeNone := rfl
@[simp] theorem State.resetNow_mlen : s.resetNow.mlen = 0#61 := rfl
@[simp] theorem State.resetNow_msg : s.resetNow.msg = [] := rfl
@[simp] theorem State.resetNow_pmb : s.resetNow.pmb = [] := rfl
@[simp] theorem State.resetNow_dig : s.resetNow.dig = [] := rfl
@[simp] theorem State.resetNow_cfg : s.resetNow.cfg = s.cfg := rfl
@[simp] theorem State.resetNow_draws : s.resetNow.draws = s.draws := rfl
@[simp] theorem State.resetNow_agenda : s.resetNow.agenda = s.agenda := rfl
@[simp] theorem State.resetNow_replies : s.resetNow.replies = s.replies := rfl

end Sys2Proof.Machine
end

