-- ==== Sys2Proof/Laws/Memory.lean ====
section
/-! SUPPORT. The memory operations: what a read sees after a write, and that every write keeps the canonical form. -/

namespace Sys2Proof.Machine

@[simp] theorem Memory.read_nil (a : Nat) : Memory.read [] a = none := rfl

/-- A write changes the byte at its address and no other. -/
theorem Memory.read_write (m : Memory) (a b : Nat) (x : Byte) :
    (m.write a x).read b = if b = a then some x else m.read b := by
  induction m with
  | nil => simp [Memory.write, Memory.read, eq_comm]
  | cons c rest ih =>
    obtain ⟨k, y⟩ := c
    unfold Memory.write
    by_cases hka : k < a
    · by_cases hkb : k = b
      · rw [if_pos hka, if_neg (by omega)]
        simp [Memory.read, hkb]
      · simp [hka, Memory.read, hkb, ih]
    · by_cases he : k = a
      · subst he
        by_cases hb : b = k <;> simp [Memory.read, hb, eq_comm]
      · by_cases hb : b = a
        · simp [hka, he, Memory.read, hb]
        · simp [hka, he, Memory.read, hb, Ne.symm hb]

/-- A sequence of writes changes the bytes at its addresses and no other (20_memory R61). -/
theorem Memory.read_writeAll (bs : List Byte) (m : Memory) (a b : Nat) :
    (m.writeAll a bs).read b = if h : a ≤ b ∧ b - a < bs.length then some (bs[b - a]'h.2) else m.read b := by
  induction bs generalizing m a with
  | nil => simp [Memory.writeAll]
  | cons x bs ih =>
    simp only [Memory.writeAll, ih, Memory.read_write, List.length_cons]
    by_cases hb : b = a
    · subst hb
      simp
    · by_cases h1 : a + 1 ≤ b ∧ b - (a + 1) < bs.length
      · have e : b - a = (b - (a + 1)) + 1 := by omega
        simp only [h1, and_self, dite_true]
        rw [dif_pos (by omega)]
        simp [e]
      · rw [dif_neg h1, dif_neg (by omega), if_neg hb]

/-- A write lists no address below both the old ones and its own. -/
theorem Memory.forall_write {m : Memory} {a : Nat} {x : Byte} {p : Nat → Prop} (ha : p a)
    (hm : ∀ c ∈ m, p c.1) : ∀ c ∈ m.write a x, p c.1 := by
  induction m with
  | nil => simpa [Memory.write] using ha
  | cons c rest ih =>
    obtain ⟨k, y⟩ := c
    simp only [List.forall_mem_cons] at hm
    unfold Memory.write
    split
    · simpa using ⟨hm.1, fun _ _ hc => ih hm.2 _ hc⟩
    · split
      · simpa using ⟨ha, fun _ _ hc => hm.2 _ hc⟩
      · simpa using ⟨ha, hm.1, fun _ _ hc => hm.2 _ hc⟩

theorem Memory.forall_writeAll {p : Nat → Prop} (bs : List Byte) {m : Memory} {a : Nat}
    (ha : ∀ i < bs.length, p (a + i)) (hm : ∀ c ∈ m, p c.1) : ∀ c ∈ m.writeAll a bs, p c.1 := by
  induction bs generalizing m a with
  | nil => simpa [Memory.writeAll] using hm
  | cons x bs ih =>
    refine ih (fun i hi => ?_) (Memory.forall_write (by simpa using ha 0 (by simp)) hm)
    have := ha (i + 1) (by simpa using hi)
    rwa [show a + 1 + i = a + (i + 1) by omega]

/-- A write keeps the canonical form. -/
theorem Memory.wf_write {m : Memory} (h : m.wf) (a : Nat) (x : Byte) : (m.write a x).wf := by
  induction m with
  | nil => simp [Memory.write, Memory.wf]
  | cons c rest ih =>
    obtain ⟨k, y⟩ := c
    obtain ⟨hk, hr⟩ := List.pairwise_cons.mp h
    unfold Memory.write
    split
    · next hka => exact List.pairwise_cons.mpr ⟨Memory.forall_write (p := fun z => k < z) hka hk, ih hr⟩
    · split
      · next hka => subst hka; exact List.pairwise_cons.mpr ⟨hk, hr⟩
      · refine List.pairwise_cons.mpr ⟨?_, h⟩
        simp only [List.forall_mem_cons]
        exact ⟨by omega, fun c hc => by have := hk c hc; simp only at this ⊢; omega⟩

theorem Memory.wf_writeAll (bs : List Byte) {m : Memory} (h : m.wf) (a : Nat) : (m.writeAll a bs).wf := by
  induction bs generalizing m a with
  | nil => exact h
  | cons x bs ih => exact ih (Memory.wf_write h a x) (a + 1)

end Sys2Proof.Machine
end

