-- ==== Sys2Proof/Laws/Ops.lean ====
section
/-! SUPPORT. What each shared operation can do: register reads, MemRead and MemWrite, taking a fault, the lengths of the
padder. -/

namespace Sys2Proof.Machine

/-! ### Registers -/

@[simp] theorem Reg.read_word (x : Word) (k : Nat) : (Reg.word x).read k = x := rfl

/-- A specified register holds the word a read of it gives, whatever the draw. -/
theorem Reg.eq_word_read {r : Reg} (h : r.Specified) (k : Nat) : r = .word (r.read k) := by
  cases r with
  | word w => rfl
  | unspecified => exact absurd rfl h

/-- The draw does not matter where the register is specified. -/
theorem Reg.read_irrel {r : Reg} (h : r.Specified) (k k' : Nat) : r.read k = r.read k' := by
  cases r with
  | word w => rfl
  | unspecified => exact absurd rfl h

@[simp] theorem Reg.specified_word (x : Word) : (Reg.word x).Specified := by simp [Reg.Specified]

@[simp] theorem getElem_readFile {n : Nat} (f : Vector Reg n) (k i : Nat) (h : i < n) :
    (readFile f k)[i] = f[i].read (k + i) := by simp [readFile]

@[simp] theorem getElem_wordFile {n : Nat} (f : Vector Word n) (i : Nat) (h : i < n) :
    (wordFile f)[i] = .word f[i] := by simp [wordFile]

@[simp] theorem readFile_wordFile {n : Nat} (f : Vector Word n) (k : Nat) : readFile (wordFile f) k = f := by
  ext i hi; simp

@[simp] theorem getElem_unspecifiedFile (n i : Nat) (h : i < n) : (unspecifiedFile n)[i] = .unspecified := by
  simp [unspecifiedFile]

/-! ### Lengths -/

theorem blockCount_eq (n : Nat) : blockCount n = (n + 144) / 128 := by
  unfold blockCount paddedLength padZeros; omega

theorem paddedLength_eq (n : Nat) : paddedLength n = 128 * blockCount n := by
  unfold blockCount paddedLength padZeros; omega

theorem paddedLength_pos (n : Nat) : 0 < paddedLength n := by
  unfold paddedLength; omega

theorem paddedLength_mod (n : Nat) : paddedLength n % 128 = 0 := by
  rw [paddedLength_eq]; omega

/-- The padded message of every message MSG can hold fits the buffer (20_memory R69). -/
theorem paddedLength_le_size {s : State} (h : s.n ≤ s.cfg.maxMsgBytes.toNat) : paddedLength s.n ≤ s.size .pmb := by
  rw [State.size_pmb, paddedLength_eq, blockCount_eq]; omega

theorem State.n_lt (s : State) : s.n < 2 ^ 61 := s.mlen.isLt

/-! ### MemRead and MemWrite -/

theorem memRead_inside {sp : Space} {addr n : Nat} {s : State} (h : addr + n ≤ s.size sp) :
    memRead sp addr n s =
      .ok (Vector.ofFn fun i : Fin n => s.cell sp (addr + i) (s.draws + i), s.addDraws n) := if_pos h

theorem memRead_outside {sp : Space} {addr n : Nat} {s : State} (h : s.size sp < addr + n) :
    memRead sp addr n s = .error (.outsideSpace sp) := if_neg (by omega)

theorem memWrite_inside {sp : Space} {addr n : Nat} {bytes : Vector Byte n} {s : State} (h : addr + n ≤ s.size sp) :
    memWrite sp addr bytes s = .ok (s.setSpace sp ((s.space sp).writeAll addr bytes.toList)) := if_pos h

theorem memWrite_outside {sp : Space} {addr n : Nat} {bytes : Vector Byte n} {s : State} (h : s.size sp < addr + n) :
    memWrite sp addr bytes s = .error (.outsideSpace sp) := if_neg (by omega)

/-- What a read sees after a block of bytes was written. -/
theorem Memory.read_writeAll_vector {n : Nat} (m : Memory) (a b : Nat) (v : Vector Byte n) :
    (m.writeAll a v.toList).read b = if h : a ≤ b ∧ b - a < n then some (v[b - a]'h.2) else m.read b := by
  rw [Memory.read_writeAll]
  simp

theorem State.cell_of_some {s : State} {sp : Space} {a : Nat} {b : Byte} (h : (s.space sp).read a = some b) (k : Nat) :
    s.cell sp a k = b := by simp [State.cell, h]

theorem State.cell_of_none {s : State} {sp : Space} {a : Nat} (h : (s.space sp).read a = none) (k : Nat) :
    s.cell sp a k = Config.freeByte k := by simp [State.cell, h]

/-! ### Taking a fault -/

theorem State.isFault_iff (s : State) : s.isFault = true ↔ s.ph = phFault := by simp [State.isFault]
theorem State.isDone_iff (s : State) : s.isDone = true ↔ s.ph = phDone := by simp [State.isDone]
theorem State.busy_iff (s : State) : s.busy = true ↔ 1 ≤ s.ph.toNat ∧ s.ph.toNat ≤ 8 := by simp [State.busy]

theorem State.raise_of_ne {s : State} (h : s.ph ≠ phFault) (c : BitVec 2) :
    s.raise c = (s.dropData.setFcause c).setPc phFault 0#7 0#55 := by simp [State.raise, State.isFault, h]

theorem State.raise_of_eq {s : State} (h : s.ph = phFault) (c : BitVec 2) : s.raise c = s := by
  simp [State.raise, State.isFault, h]

@[simp] theorem State.raise_ph (s : State) (c : BitVec 2) : (s.raise c).ph = phFault := by
  by_cases h : s.ph = phFault
  · rw [State.raise_of_eq h, h]
  · rw [State.raise_of_ne h]; rfl

@[simp] theorem State.raise_isFault (s : State) (c : BitVec 2) : (s.raise c).isFault = true := by simp [State.isFault]

theorem State.ph_ne_fault_of_busy {s : State} (h : s.busy = true) : s.ph ≠ phFault := by
  rw [State.busy_iff] at h
  intro e
  rw [e] at h
  exact absurd h.2 (by decide)

end Sys2Proof.Machine
end

