-- ==== Sys2Proof/Laws/Meanings.lean ====
section
/-! SUPPORT. For each meaning, once, everything it can do: which next states it answers and under which conditions. -/

namespace Sys2Proof.Machine

/-- PAD: a next state on the messages MSG can hold, a stop on longer ones; its defensive check always passes. -/
theorem execPad_eq (s : State) : execPad s =
    if s.n ≤ s.cfg.maxMsgBytes.toNat then
      .next (((s.addDraws s.n).setPmb (s.pmb.writeAll 0
        (padMessage (Vector.ofFn fun i : Fin s.n => s.cell .msg (0 + i) (s.draws + i))).toList)).setPc phSeed 0#7 0#55)
    else .fault (.outsideSpace .msg) := by
  unfold execPad
  rw [if_pos ⟨paddedLength_pos _, paddedLength_mod _⟩]
  by_cases h : s.n ≤ s.cfg.maxMsgBytes.toNat
  · rw [memRead_inside (by simpa [State.size] using h)]
    dsimp only
    rw [memWrite_inside (by simpa using paddedLength_le_size h)]
    simp [h]
  · rw [memRead_outside (by simpa [State.size] using h)]
    simp [h]

/-- PARSE: INVARIANT when its block does not lie within the padded length, else a next state when the buffer has the
block, a stop when it has not. -/
theorem execParse_eq (s : State) : execParse s =
    if s.blockAddr + 128 ≤ paddedLength s.n then
      if s.blockAddr + 128 ≤ s.size .pmb then
        .next (((s.addDraws 128).setW (parseInto s.w
          (Vector.ofFn fun i : Fin 128 => s.cell .pmb (s.blockAddr + i) (s.draws + i)))).setPc phSched 16#7 s.blk)
      else .fault (.outsideSpace .pmb)
    else .next (s.raise causeInvariant) := by
  unfold execParse
  by_cases h : s.blockAddr + 128 ≤ paddedLength s.n
  · rw [if_pos h, if_pos h]
    by_cases h' : s.blockAddr + 128 ≤ s.size .pmb
    · rw [memRead_inside h', if_pos h']
    · rw [memRead_outside (by omega), if_neg h']
  · rw [if_neg h, if_neg h]

/-- SCHED t: a next state for 16 ≤ t ≤ 79, a stop for any other t. -/
theorem execSched_eq (t : BitVec 7) (s : State) : execSched t s =
    if h : 16 ≤ t.toNat ∧ t.toNat ≤ 79 then
      .next (((s.setW (s.w.set t.toNat (.word (scheduleWord (s.w[t.toNat - 16].read s.draws)
        (s.w[t.toNat - 15].read (s.draws + 1)) (s.w[t.toNat - 7].read (s.draws + 2))
        (s.w[t.toNat - 2].read (s.draws + 3)))))).addDraws 4).setPc
        (if t.toNat < 79 then phSched else phLoadv) (if t.toNat < 79 then t + 1#7 else 0#7) s.blk)
    else .fault (.reservedControlWord (.schedIndex t)) := by
  unfold execSched
  by_cases h : 16 ≤ t.toNat ∧ t.toNat ≤ 79
  · rw [dif_pos h, dif_pos h]
    by_cases h' : t.toNat < 79 <;> simp [h']
  · rw [dif_neg h, dif_neg h]

/-- ROUND t: a next state for t ≤ 79, a stop for any other t. -/
theorem execRound_eq (t : BitVec 7) (s : State) : execRound t s =
    if h : t.toNat ≤ 79 then
      .next (((s.setV (wordFile (roundStep (readFile s.v s.draws) roundConstants[t.toNat]
        (s.w[t.toNat].read (s.draws + 8))))).addDraws 9).setPc
        (if t.toNat < 79 then phRound else phFold) (if t.toNat < 79 then t + 1#7 else 0#7) s.blk)
    else .fault (.reservedControlWord (.roundIndex t)) := by
  unfold execRound
  by_cases h : t.toNat ≤ 79
  · rw [dif_pos h, dif_pos h]
    by_cases h' : t.toNat < 79 <;> simp [h']
  · rw [dif_neg h, dif_neg h]

/-- PAD answers a next state exactly on the messages MSG can hold. -/
theorem execPad_next {s s' : State} : execPad s = .next s' ↔
    s.n ≤ s.cfg.maxMsgBytes.toNat ∧
    s' = ((s.addDraws s.n).setPmb (s.pmb.writeAll 0
      (padMessage (Vector.ofFn fun i : Fin s.n => s.cell .msg (0 + i) (s.draws + i))).toList)).setPc phSeed 0#7 0#55 := by
  rw [execPad_eq]
  split <;> simp_all [eq_comm]

/-- PARSE answers a next state exactly when its block lies within the padded length (then the buffer must hold it), or
does not (then INVARIANT is raised). -/
theorem execParse_next {s s' : State} : execParse s = .next s' ↔
    (s.blockAddr + 128 ≤ paddedLength s.n ∧ s.blockAddr + 128 ≤ s.size .pmb ∧
      s' = ((s.addDraws 128).setW (parseInto s.w
        (Vector.ofFn fun i : Fin 128 => s.cell .pmb (s.blockAddr + i) (s.draws + i)))).setPc phSched 16#7 s.blk) ∨
    (paddedLength s.n < s.blockAddr + 128 ∧ s' = s.raise causeInvariant) := by
  rw [execParse_eq]
  by_cases h : s.blockAddr + 128 ≤ paddedLength s.n
  · have h1 : ¬ paddedLength s.n < s.blockAddr + 128 := by omega
    by_cases h' : s.blockAddr + 128 ≤ s.size .pmb <;> simp [h, h', h1, eq_comm]
  · have h1 : paddedLength s.n < s.blockAddr + 128 := by omega
    simp [h, h1, eq_comm]

/-- SCHED t answers a next state exactly for 16 ≤ t ≤ 79. -/
theorem execSched_next {t : BitVec 7} {s s' : State} : execSched t s = .next s' ↔
    ∃ h : 16 ≤ t.toNat ∧ t.toNat ≤ 79,
      s' = ((s.setW (s.w.set t.toNat (.word (scheduleWord (s.w[t.toNat - 16].read s.draws)
        (s.w[t.toNat - 15].read (s.draws + 1)) (s.w[t.toNat - 7].read (s.draws + 2))
        (s.w[t.toNat - 2].read (s.draws + 3)))))).addDraws 4).setPc
        (if t.toNat < 79 then phSched else phLoadv) (if t.toNat < 79 then t + 1#7 else 0#7) s.blk := by
  rw [execSched_eq]
  by_cases h : 16 ≤ t.toNat ∧ t.toNat ≤ 79 <;> simp [h, eq_comm]

/-- ROUND t answers a next state exactly for t ≤ 79. -/
theorem execRound_next {t : BitVec 7} {s s' : State} : execRound t s = .next s' ↔
    ∃ h : t.toNat ≤ 79,
      s' = ((s.setV (wordFile (roundStep (readFile s.v s.draws) roundConstants[t.toNat]
        (s.w[t.toNat].read (s.draws + 8))))).addDraws 9).setPc
        (if t.toNat < 79 then phRound else phFold) (if t.toNat < 79 then t + 1#7 else 0#7) s.blk := by
  rw [execRound_eq]
  by_cases h : t.toNat ≤ 79 <;> simp [h, eq_comm]

/-- FOLD always answers a next state. -/
theorem execFold_eq (s : State) : execFold s = .next (((s.setH (wordFile (foldWords (readFile s.h s.draws)
    (readFile s.v (s.draws + 8))))).addDraws 16).setPc
    (if s.blk.toNat + 1 < blockCount s.n then phParse else phSerialize) 0#7
    (if s.blk.toNat + 1 < blockCount s.n then s.blk + 1#55 else s.blk)) := by
  unfold execFold
  by_cases h : s.blk.toNat + 1 < blockCount s.n <;> simp [h]

/-- SERIALIZE always answers a next state: its 64 bytes are exactly DIG. -/
theorem execSerialize_eq (s : State) : execSerialize s = .next (((s.addDraws 8).setDig (s.dig.writeAll 0
    (serializeWords (readFile s.h s.draws)).toList)).setPc phDone 0#7 s.blk) := by
  unfold execSerialize
  rw [memWrite_inside (by simp)]
  simp

/-- START always answers a next state: one of the four of 45_sequencer R175. -/
theorem execStart_eq (s : State) : execStart s = .next (
    if s.ph = phIdle ∨ s.ph = phDone then
      if s.cfg.maxMsgBytes.toNat < s.n then s.raise causeLenRange else (s.setDig []).setPc phPad 0#7 0#55
    else if s.busy then s.raise causeHostProtocol else s) := by
  unfold execStart
  split
  · split <;> rfl
  · split <;> rfl

/-! ### No meaning reads or writes the agenda -/

/-- An outcome with the agenda of its next state replaced. -/
def outcomeWithAgenda (l : List Turn) : Host.Outcome State Fault Refusal → Host.Outcome State Fault Refusal
  | .next s => .next (s.setAgenda l)
  | .fault f => .fault f
  | .refused r => .refused r

theorem State.raise_setAgenda (s : State) (l : List Turn) (c : BitVec 2) :
    (s.setAgenda l).raise c = (s.raise c).setAgenda l := by
  by_cases h : s.ph = phFault
  · rw [State.raise_of_eq h, State.raise_of_eq (s := s.setAgenda l) h]
  · rw [State.raise_of_ne h, State.raise_of_ne (s := s.setAgenda l) h]; rfl

/-- Every meaning commutes with a change of the agenda. -/
theorem exec_setAgenda (i : Instr) (s : State) (l : List Turn) :
    exec i (s.setAgenda l) = outcomeWithAgenda l (exec i s) := by
  have next {x y : State} (h : x = y.setAgenda l) :
      (Host.Outcome.next x : Host.Outcome State Fault Refusal) = outcomeWithAgenda l (.next y) := congrArg _ h
  cases i with
  | idle => rfl
  | done => rfl
  | fault => rfl
  | seed => rfl
  | loadv => rfl
  | pad =>
    simp only [exec, execPad_eq]
    by_cases h : s.n ≤ s.cfg.maxMsgBytes.toNat
    · rw [if_pos h, if_pos (by simpa using h)]
      exact next (by ext1 <;> simp)
    · rw [if_neg h, if_neg (by simpa using h)]; rfl
  | parse =>
    simp only [exec, execParse_eq]
    by_cases h : s.blockAddr + 128 ≤ paddedLength s.n
    · rw [if_pos h, if_pos (by simpa using h)]
      by_cases h' : s.blockAddr + 128 ≤ s.size .pmb
      · rw [if_pos h', if_pos (by simpa using h')]
        exact next (by ext1 <;> simp)
      · rw [if_neg h', if_neg (by simpa using h')]; rfl
    · rw [if_neg h, if_neg (by simpa using h)]
      exact next (State.raise_setAgenda s l _)
  | sched t =>
    simp only [exec, execSched_eq]
    split
    · exact next (by ext1 <;> simp)
    · rfl
  | round t =>
    simp only [exec, execRound_eq]
    split
    · exact next (by ext1 <;> simp)
    · rfl
  | fold =>
    simp only [exec, execFold_eq]
    exact next (by ext1 <;> simp <;> rfl)
  | serialize =>
    simp only [exec, execSerialize_eq]
    exact next (by ext1 <;> simp)
  | start =>
    simp only [exec, execStart_eq, State.raise_setAgenda]
    refine next ?_
    by_cases h : s.ph = phIdle ∨ s.ph = phDone
    · rw [if_pos h, if_pos (by simpa using h)]
      by_cases h' : s.cfg.maxMsgBytes.toNat < s.n
      · rw [if_pos h', if_pos (by simpa using h')]
      · rw [if_neg h', if_neg (by simpa using h')]; rfl
    · rw [if_neg h, if_neg (by simpa using h)]
      by_cases h' : s.busy = true
      · rw [if_pos h', if_pos (by simpa using h')]
      · rw [if_neg h', if_neg (by simpa using h')]

end Sys2Proof.Machine
end

