-- ==== Sys2Proof/Laws/PerInstr.lean ====
section
/-! SUPPORT. A fact about every operation as syntax: the control word it is encoded in selects its own row of the
operation map, and START alone has none (30_encoding R92, R96). -/

namespace Sys2Proof.Laws.OperationMap

/-- The code of a well-formed operation is a control word that selects its row, or a command and the operation has no
row. -/
def Statement (i : Instr) : Prop :=
  i.wf = true →
    match encode i with
    | .control cw => selectsRow cw i = true
    | .command _ => rowOf i = none

theorem indexField_controlWord (p : BitVec 4) (t : BitVec 7) : indexField (controlWord p t) = t := by
  revert p t; decide

theorem sched_selects (t : BitVec 7) : (controlWord 4#4 t &&& 0x780#11) = 0x200#11 := by
  revert t; decide

theorem round_selects (t : BitVec 7) : (controlWord 6#4 t &&& 0x780#11) = 0x300#11 := by
  revert t; decide

theorem idle : Statement .idle := by intro _; rfl
theorem pad : Statement .pad := by intro _; rfl
theorem seed : Statement .seed := by intro _; rfl
theorem parse : Statement .parse := by intro _; rfl
theorem sched (t : BitVec 7) : Statement (.sched t) := by
  intro h; simp [encode, selectsRow, rowOf, sched_selects, indexField_controlWord, h]
theorem loadv : Statement .loadv := by intro _; rfl
theorem round (t : BitVec 7) : Statement (.round t) := by
  intro h; simp [encode, selectsRow, rowOf, round_selects, indexField_controlWord, h]
theorem fold : Statement .fold := by intro _; rfl
theorem serialize : Statement .serialize := by intro _; rfl
theorem done : Statement .done := by intro _; rfl
theorem fault : Statement .fault := by intro _; rfl
theorem start : Statement .start := by intro _; rfl

end Sys2Proof.Laws.OperationMap
end

