-- ==== Sys2Proof/Laws/Fetch.lean ====
section
/-! SUPPORT. Where the sequencer stands when it performs an operation (30_encoding R92, R104). -/

namespace Sys2Proof.Machine

theorem phaseField_controlWord (p : BitVec 4) (t : BitVec 7) : phaseField (controlWord p t) = p := by
  revert p t; decide

/-- The decoder on the fields of a control word (30_encoding R104). -/
theorem State.fetch_eq (s : State) : s.fetch =
    if s.ph = 0#4 then unindexed .idle s.ph s.t
    else if s.ph = 1#4 then unindexed .pad s.ph s.t
    else if s.ph = 2#4 then unindexed .seed s.ph s.t
    else if s.ph = 3#4 then unindexed .parse s.ph s.t
    else if s.ph = 4#4 then
      if 16 ≤ s.t.toNat ∧ s.t.toNat ≤ 79 then .ok (.sched s.t) else .error (.schedIndex s.t)
    else if s.ph = 5#4 then unindexed .loadv s.ph s.t
    else if s.ph = 6#4 then if s.t.toNat ≤ 79 then .ok (.round s.t) else .error (.roundIndex s.t)
    else if s.ph = 7#4 then unindexed .fold s.ph s.t
    else if s.ph = 8#4 then unindexed .serialize s.ph s.t
    else if s.ph = 9#4 then unindexed .done s.ph s.t
    else if s.ph = 15#4 then unindexed .fault s.ph s.t
    else .error (.reservedPhase s.ph) := by
  simp only [State.fetch, State.controlWord, decode, decodeControl, phaseField_controlWord,
    Laws.OperationMap.indexField_controlWord]

/-- The sequencer performs each operation from exactly one phase. -/
theorem State.fetch_ok_iff (s : State) (i : Instr) : s.fetch = .ok i ↔
    match i with
    | .idle => s.ph = 0#4 ∧ s.t = 0#7
    | .pad => s.ph = 1#4 ∧ s.t = 0#7
    | .seed => s.ph = 2#4 ∧ s.t = 0#7
    | .parse => s.ph = 3#4 ∧ s.t = 0#7
    | .sched t => s.ph = 4#4 ∧ s.t = t ∧ 16 ≤ t.toNat ∧ t.toNat ≤ 79
    | .loadv => s.ph = 5#4 ∧ s.t = 0#7
    | .round t => s.ph = 6#4 ∧ s.t = t ∧ t.toNat ≤ 79
    | .fold => s.ph = 7#4 ∧ s.t = 0#7
    | .serialize => s.ph = 8#4 ∧ s.t = 0#7
    | .done => s.ph = 9#4 ∧ s.t = 0#7
    | .fault => s.ph = 15#4 ∧ s.t = 0#7
    | .start => False := by
  have phases : ∀ p : BitVec 4, p = 0#4 ∨ p = 1#4 ∨ p = 2#4 ∨ p = 3#4 ∨ p = 4#4 ∨ p = 5#4 ∨ p = 6#4 ∨ p = 7#4 ∨
      p = 8#4 ∨ p = 9#4 ∨ p = 10#4 ∨ p = 11#4 ∨ p = 12#4 ∨ p = 13#4 ∨ p = 14#4 ∨ p = 15#4 := by decide
  rw [State.fetch_eq]
  generalize s.ph = p
  generalize s.t = x
  simp only [unindexed]
  constructor
  · intro h
    rcases phases p with rfl | rfl | rfl | rfl | rfl | rfl | rfl | rfl | rfl | rfl | rfl | rfl | rfl | rfl | rfl | rfl <;>
      simp only [reduceIte, BitVec.reduceEq, reduceCtorEq] at h <;> split at h <;> cases h <;> simp_all
  · intro h
    cases i
    case start => exact h.elim
    case sched t => obtain ⟨rfl, rfl, h1, h2⟩ := h; simp [h1, h2]
    case round t => obtain ⟨rfl, rfl, h2⟩ := h; simp [h2]
    all_goals (obtain ⟨rfl, rfl⟩ := h; rfl)

/-- A turn of the sequencer answers a next state exactly when exec of its operation does. -/
theorem coreTurn_next {s s' : State} : coreTurn s = .next s' ↔ ∃ i, s.fetch = .ok i ∧ exec i s = .next s' := by
  unfold coreTurn
  cases h : s.fetch <;> simp

end Sys2Proof.Machine
end

