-- ==== Sys2Proof/Tests/Slice0.lean ====
section
/-! SUPPORT. Small tests. Every expected value is one that spec/95_test_vectors.md prints (its sections 2, 5, 7, 10, 11)
or is read off a rule by hand, and each `witness_` theorem shows that the hypotheses of one statement can be met. -/

namespace Sys2Proof.Tests

open Sys2Proof.Machine

set_option maxRecDepth 10000

/-- The machine of 95_test_vectors section 11: 64 bytes of MSG, "abc" written, and the given control state. -/
def at11 (ph : BitVec 4) (t : BitVec 7) (fcause : BitVec 2) (mlen : BitVec 61) : State :=
  let abc := [(0, 0x61#8), (1, 0x62#8), (2, 0x63#8)]
  { State.resetWith ⟨64#61⟩ with ph := ph, t := t, fcause := fcause, mlen := mlen, msg := abc }

/-- The next state of an outcome. -/
def after (o : Host.Outcome State Machine.Fault Refusal) : State :=
  match o with
  | .next s => s
  | _ => State.reset

def isNext (o : Host.Outcome State Machine.Fault Refusal) : Bool :=
  match o with
  | .next _ => true
  | _ => false

/-- (PH, T, BLK, FCAUSE, MLEN, STATUS), the columns of section 11. -/
def view (s : State) : BitVec 4 × BitVec 7 × BitVec 55 × BitVec 2 × BitVec 61 × BitVec 5 :=
  (s.ph, s.t, s.blk, s.fcause, s.mlen, s.status)

/-- The state in which the host's event `e` comes next. -/
def hostNext (e : HostEvent) (s : State) : State := { s with agenda := [.host e] }

/-! ### Well-formedness and decoding (30_encoding R92, R94, 95_test_vectors section 10) -/

theorem test_wf_refuses_sched_15 : Instr.wf (.sched 15#7) = false := by decide
theorem test_wf_refuses_sched_80 : Instr.wf (.sched 80#7) = false := by decide
theorem test_wf_refuses_round_80 : Instr.wf (.round 80#7) = false := by decide
theorem test_wf_accepts_the_bounds :
    [Instr.sched 16#7, .sched 79#7, .round 0#7, .round 79#7, .pad].all Instr.wf = true := by decide

theorem test_decode_idle : decodeControl 0b00000000000#11 = .ok .idle := by decide
theorem test_decode_pad : decodeControl 0b00010000000#11 = .ok .pad := by decide
theorem test_decode_seed : decodeControl 0b00100000000#11 = .ok .seed := by decide
theorem test_decode_parse : decodeControl 0b00110000000#11 = .ok .parse := by decide
theorem test_decode_sched_16 : decodeControl 0b01000010000#11 = .ok (.sched 16#7) := by decide
theorem test_decode_sched_79 : decodeControl 0b01001001111#11 = .ok (.sched 79#7) := by decide
theorem test_decode_loadv : decodeControl 0b01010000000#11 = .ok .loadv := by decide
theorem test_decode_round_0 : decodeControl 0b01100000000#11 = .ok (.round 0#7) := by decide
theorem test_decode_round_79 : decodeControl 0b01101001111#11 = .ok (.round 79#7) := by decide
theorem test_decode_fold : decodeControl 0b01110000000#11 = .ok .fold := by decide
theorem test_decode_serialize : decodeControl 0b10000000000#11 = .ok .serialize := by decide
theorem test_decode_done : decodeControl 0b10010000000#11 = .ok .done := by decide
theorem test_decode_fault : decodeControl 0b11110000000#11 = .ok .fault := by decide
theorem test_decode_start : decodeCommand 0b1#1 = .ok .start := by decide

theorem test_decode_rejects_by_name :
    decodeControl 0x001#11 = .error (.reservedIndex 0#4 1#7) ∧
    decodeControl 0x0FF#11 = .error (.reservedIndex 1#4 127#7) ∧
    decodeControl 0x20F#11 = .error (.schedIndex 15#7) ∧ decodeControl 0x250#11 = .error (.schedIndex 80#7) ∧
    decodeControl 0x350#11 = .error (.roundIndex 80#7) ∧ decodeControl 0x500#11 = .error (.reservedPhase 10#4) ∧
    decodeControl 0x781#11 = .error (.reservedIndex 15#4 1#7) ∧ decodeCommand 0#1 = .error .noCommand := by decide

theorem test_table_words :
    [0x000, 0x080, 0x100, 0x180, 0x210, 0x280, 0x300, 0x380, 0x400, 0x480, 0x780].map (decodeTableWord 16) =
      [Instr.idle, .pad, .seed, .parse, .sched 16#7, .loadv, .round 0#7, .fold, .serialize, .done, .fault].map some ∧
    decodeTableWord 8 1 = some .start := by decide

theorem test_placed_word_runs : isNext (step (State.reset.withFetchWord 16 0x210)) = true := by decide
theorem test_placed_start_runs : (after (step (State.reset.withFetchWord 8 1))).ph = 1#4 := by decide

/-! ### Primitive functions (95_test_vectors section 2) -/

theorem test_rotr_and_shr :
    rotr 0x0123456789abcdef#64 8 = 0xef0123456789abcd#64 ∧ shr 0x0123456789abcdef#64 7 = 0x0002468acf13579b#64 := by
  decide
theorem test_small_sigmas :
    smallSigma0 0x0123456789abcdef#64 = 0x6f92c77c6c4f1aa1#64 ∧
    smallSigma1 0x0123456789abcdef#64 = 0x70a3460dbbd4317a#64 := by decide
theorem test_big_sigmas :
    bigSigma0 0x0123456789abcdef#64 = 0xb7c57a100c7ec1ab#64 ∧
    bigSigma1 0x0123456789abcdef#64 = 0x7703112333475567#64 := by decide
theorem test_ch_and_maj :
    ch 0x510e527fade682d1#64 0x9b05688c2b3e6c1f#64 0x1f83d9abfb41bd6b#64 = 0x1f85c98c7b273d3b#64 ∧
    maj 0x6a09e667f3bcc908#64 0xbb67ae8584caa73b#64 0x3c6ef372fe94f82b#64 = 0x3a6fe667f69ce92b#64 := by decide
theorem test_add64_wraps : add64 0xffffffffffffffff#64 0xffffffffffffffff#64 = 0xfffffffffffffffe#64 := by decide
theorem test_be64 : be64 #v[0x01#8, 0x23#8, 0x45#8, 0x67#8, 0x89#8, 0xab#8, 0xcd#8, 0xef#8] = 0x0123456789abcdef#64 := by
  decide
theorem test_lengths : [0, 111, 112, 239, 240, 1000].map (fun n => (padZeros n, paddedLength n, blockCount n)) =
    [(111, 128, 1), (0, 128, 1), (127, 256, 2), (0, 256, 2), (127, 384, 3), (7, 1024, 8)] := by decide

/-! ### One step of each operation (95_test_vectors sections 5, 7, 10, 11) -/

theorem test_pad_abc :
    let s := after (exec .pad (at11 1#4 0#7 0#2 3#61))
    [0, 1, 2, 3, 4, 119, 126, 127, 128].map s.pmb.read =
      [some 0x61#8, some 0x62#8, some 0x63#8, some 0x80#8, some 0#8, some 0#8, some 0#8, some 0x18#8, none] ∧
    (s.ph, s.t) = (2#4, 0#7) := by decide

theorem test_seed : (after (exec .seed State.reset)).h[7] = .word 0x5be0cd19137e2179#64 := by decide

/-- The buffer after PAD of "abc" (section 5), in the phase PARSE. -/
def padded : State :=
  let bytes := [0x61#8, 0x62#8, 0x63#8, 0x80#8] ++ List.replicate 123 0#8 ++ [0x18#8]
  { at11 3#4 0#7 0#2 3#61 with pmb := bytes.mapIdx fun i b => (i, b) }

theorem test_parse_abc :
    let s := after (exec .parse padded)
    s.w[0] = .word 0x6162638000000000#64 ∧ s.w[15] = .word 0x18#64 ∧ s.w[16] = .unspecified ∧
      (s.ph, s.t) = (4#4, 16#7) := by decide

/-- W[0..18] of "abc" (section 5), the other words 0. -/
def schedule18 : Vector Reg 80 :=
  (((((Vector.replicate 80 (.word 0#64)).set 0 (.word 0x6162638000000000#64)).set 15 (.word 0x18#64)).set 16
    (.word 0x6162638000000000#64)).set 17 (.word 0x00030000000000c0#64)).set 18 (.word 0x0a9699a24c700003#64)

theorem test_sched_19 :
    let s := after (exec (.sched 19#7) { at11 4#4 19#7 0#2 3#61 with w := schedule18 })
    s.w[19] = .word 0x00000c0060000603#64 ∧ s.w[18] = .word 0x0a9699a24c700003#64 ∧ (s.ph, s.t) = (4#4, 20#7) := by
  decide
theorem test_sched_79_ends_the_schedule :
    let s := after (exec (.sched 79#7) (at11 4#4 79#7 0#2 3#61))
    (s.ph, s.t, s.blk) = (5#4, 0#7, 0#55) := by decide

theorem test_loadv :
    let s := after (exec .loadv { at11 5#4 0#7 0#2 3#61 with h := wordFile initialHash })
    s.v = wordFile initialHash ∧ (s.ph, s.t) = (6#4, 0#7) := by decide

theorem test_round_0 :
    let s := after (exec (.round 0#7) { at11 6#4 0#7 0#2 3#61 with v := wordFile initialHash, w := schedule18 })
    s.v = #v[.word 0xf6afceb8bcfcddf5#64, .word 0x6a09e667f3bcc908#64, .word 0xbb67ae8584caa73b#64,
      .word 0x3c6ef372fe94f82b#64, .word 0x58cb02347ab51f91#64, .word 0x510e527fade682d1#64,
      .word 0x9b05688c2b3e6c1f#64, .word 0x1f83d9abfb41bd6b#64] ∧ (s.ph, s.t) = (6#4, 1#7) := by decide
theorem test_round_79 :
    let s := after (exec (.round 79#7) { at11 6#4 79#7 0#2 3#61 with
      v := wordFile #v[0x10d9c4c4295599f6#64, 0xd67806db8b148677#64, 0x654ef9abec389ca9#64, 0xc8960e6be864b916#64,
        0x9bb4d39778c07f9e#64, 0x25c96a7768fb2aa3#64, 0xceb9fc3691ce8326#64, 0x995019a6ff3ba3de#64]
      w := schedule18.set 79 (.word 0x92aeeed1a7bcf7d2#64) })
    s.v[0] = .word 0x73a54f399fa4b1b2#64 ∧ s.v[4] = .word 0xd08446aa79693ed7#64 ∧ (s.ph, s.t) = (7#4, 0#7) := by decide

/-- a..h after the 80 rounds of "abc" (section 5). -/
def lastRound : Vector Word 8 :=
  #v[0x73a54f399fa4b1b2#64, 0x10d9c4c4295599f6#64, 0xd67806db8b148677#64, 0x654ef9abec389ca9#64, 0xd08446aa79693ed7#64,
    0x9bb4d39778c07f9e#64, 0x25c96a7768fb2aa3#64, 0xceb9fc3691ce8326#64]

/-- H of "abc" at the end (section 5). -/
def digestWords : Vector Word 8 :=
  #v[0xddaf35a193617aba#64, 0xcc417349ae204131#64, 0x12e6fa4e89a97ea2#64, 0x0a9eeee64b55d39a#64, 0x2192992a274fc1a8#64,
    0x36ba3c23a3feebbd#64, 0x454d4423643ce80e#64, 0x2a9ac94fa54ca49f#64]

theorem test_fold_abc :
    let s := after (exec .fold { at11 7#4 0#7 0#2 3#61 with h := wordFile initialHash, v := wordFile lastRound })
    s.h = wordFile digestWords ∧ (s.ph, s.t, s.blk) = (8#4, 0#7, 0#55) := by decide
theorem test_fold_goes_to_the_next_block :
    let s := after (exec .fold { at11 7#4 0#7 0#2 112#61 with v := wordFile lastRound })
    (s.ph, s.t, s.blk) = (3#4, 0#7, 1#55) := by decide

theorem test_serialize_abc :
    let s := after (exec .serialize { at11 8#4 0#7 0#2 3#61 with h := wordFile digestWords })
    [0, 1, 15, 16, 63, 64].map s.dig.read =
      [some 0xdd#8, some 0xaf#8, some 0x31#8, some 0x12#8, some 0x9f#8, none] ∧ (s.ph, s.t) = (9#4, 0#7) := by decide

theorem test_wait_states :
    exec .idle State.reset = .next State.reset ∧ exec .done (at11 9#4 0#7 0#2 3#61) = .next (at11 9#4 0#7 0#2 3#61) ∧
    exec .fault (at11 15#4 0#7 1#2 3#61) = .next (at11 15#4 0#7 1#2 3#61) := ⟨rfl, rfl, rfl⟩

theorem test_F3_start_at_capacity :
    view (after (exec .start (at11 0#4 0#7 0#2 64#61))) = (1#4, 0#7, 0#55, 0#2, 64#61, 0x01#5) := by decide
theorem test_F4_start_beyond_capacity :
    view (after (exec .start (at11 0#4 0#7 0#2 65#61))) = (15#4, 0#7, 0#55, 2#2, 65#61, 0x14#5) := by decide

/-! ### Host events (95_test_vectors section 11) -/

theorem test_F7_write_msg_while_busy :
    let s := after (step (hostNext (.writeMsg 0#61 0xff#8) (at11 4#4 40#7 0#2 3#61)))
    view s = (15#4, 0#7, 0#55, 1#2, 3#61, 0x0c#5) ∧ s.msg.read 0 = some 0x61#8 := by decide
theorem test_F8_write_mlen_while_busy :
    view (after (step (hostNext (.writeMlen 5#61) (at11 6#4 79#7 0#2 3#61)))) =
      (15#4, 0#7, 0#55, 1#2, 3#61, 0x0c#5) := by decide
theorem test_F10_read_status_while_busy :
    (after (step (hostNext .readStatus (at11 6#4 5#7 0#2 3#61)))).replies = [.status 0x01#5] := by decide
theorem test_F12_write_msg_in_fault :
    let s := after (step (hostNext (.writeMsg 1#61 0#8) (at11 15#4 0#7 1#2 3#61)))
    view s = (15#4, 0#7, 0#55, 1#2, 3#61, 0x0c#5) ∧ s.msg.read 1 = some 0#8 := by decide
theorem test_F14_reset_leaves_fault :
    view (after (step (hostNext .reset (at11 15#4 0#7 1#2 3#61)))) = (0#4, 0#7, 0#55, 0#2, 0#61, 0x00#5) := by decide
theorem test_F17_write_msg_in_done :
    let s := after (step (hostNext (.writeMsg 0#61 0x7a#8) { at11 9#4 0#7 0#2 3#61 with dig := [(0, 0xdd#8)] }))
    view s = (9#4, 0#7, 0#55, 0#2, 3#61, 0x02#5) ∧ s.dig.read 0 = some 0xdd#8 := by decide

/-! ### Witnesses: the hypotheses of the statements can be met -/

theorem witness_step_runs :
    State.reset.agenda = [] ∧ State.reset.fetch = .ok .idle ∧
    ({ at11 6#4 79#7 0#2 3#61 with agenda := [.core] } : State).fetch = .ok (.round 79#7) ∧
    decode (.command 1#1) = .ok .start := by decide

theorem witness_reserved_word :
    (at11 10#4 0#7 0#2 3#61).fetch = .error (.reservedPhase 10#4) ∧
    (at11 4#4 15#7 0#2 3#61).fetch = .error (.schedIndex 15#7) ∧
    (at11 4#4 80#7 0#2 3#61).fetch = .error (.schedIndex 80#7) ∧
    (at11 6#4 80#7 0#2 3#61).fetch = .error (.roundIndex 80#7) ∧ (at11 10#4 0#7 0#2 3#61).agenda = [] := by decide

theorem witness_reserved_word_on_a_core_turn :
    ({ at11 10#4 0#7 0#2 3#61 with agenda := [.core] } : State).fetch = .error (.reservedPhase 10#4) ∧
    ∃ rest, ({ at11 10#4 0#7 0#2 3#61 with agenda := [.core] } : State).agenda = .core :: rest :=
  ⟨by decide, [], rfl⟩

theorem witness_index_out_of_range : (15#7 : BitVec 7).toNat < 16 ∧ 79 < (80#7 : BitVec 7).toNat := by decide

/-- Rotation and shift amounts, bit numbers and byte numbers at both ends of their ranges. -/
theorem witness_ranges : (1 ≤ 1 ∧ 1 ≤ 63) ∧ (1 ≤ 63 ∧ 63 ≤ 63) ∧ 0 < 64 ∧ 63 < 64 := by decide

/-- MemRead and MemWrite on the last 8 bytes of DIG, and one byte further. -/
theorem witness_memory_access : 56 + 8 ≤ State.reset.size .dig ∧ State.reset.size .dig < 57 + 8 := by decide

theorem witness_canonical_memories : Memory.wf [(0, 1#8), (5, 2#8)] ∧ ∀ a, Memory.read [(0, 1#8)] a = Memory.read [(0, 1#8)] a :=
  ⟨by decide, fun _ => rfl⟩

theorem witness_lengths : (2 ^ 61 - 1 ≤ 2 ^ 61 - 1) ∧ (111 ≤ 112) ∧ (256 % 128 = 0 ∧ 112 + 17 ≤ 256) := by decide

theorem witness_pad : State.HoldsMessage (at11 1#4 0#7 0#2 3#61) #v[0x61#8, 0x62#8, 0x63#8] ∧
    3 ≤ (at11 1#4 0#7 0#2 3#61).cfg.maxMsgBytes.toNat := ⟨⟨by decide, by decide⟩, by decide⟩

theorem witness_parse : padded.blk.toNat < blockCount padded.n ∧ padded.n ≤ padded.cfg.maxMsgBytes.toNat ∧
    ∀ k : Fin 128, padded.pmb.read (128 * padded.blk.toNat + k) =
      some (padMessage #v[0x61#8, 0x62#8, 0x63#8])[k.val] := by decide

theorem witness_sched : 16 ≤ (16#7 : BitVec 7).toNat ∧ (79#7 : BitVec 7).toNat ≤ 79 ∧
    schedule18[0] = .word 0x6162638000000000#64 ∧ schedule18[79] = .word 0#64 ∧ schedule18[63] = .word 0#64 ∧
    schedule18[72] = .word 0#64 ∧ schedule18[77] = .word 0#64 := by decide

/-- PAD of "abc" with MSG[1] never written: its padding is there, and PAD's operands meet the clause on any contents. -/
theorem test_pad_with_an_unwritten_byte :
    let s := after (exec .pad { at11 1#4 0#7 0#2 3#61 with msg := [(0, 0x61#8), (2, 0x63#8)], pmb := [(128, 7#8)] })
    [0, 2, 3, 4, 126, 127, 128].map s.pmb.read =
      [some 0x61#8, some 0x63#8, some 0x80#8, some 0#8, some 0#8, some 0x18#8, some 7#8] := by decide

theorem witness_specified_file : ∀ i : Fin 8, (wordFile initialHash)[i].Specified := by
  intro i; fin_cases i <;> (intro h; exact absurd h (by decide))

theorem witness_round : (0#7 : BitVec 7).toNat ≤ 79 ∧ (79#7 : BitVec 7).toNat ≤ 79 ∧
    wordFile #v[1#64, 2#64, 3#64, 4#64, 5#64, 6#64, 7#64, 8#64] =
      #v[.word 1#64, .word 2#64, .word 3#64, .word 4#64, .word 5#64, .word 6#64, .word 7#64, .word 8#64] ∧
    schedule18[79] = .word 0#64 := by decide

theorem witness_fold_and_serialize : (∀ i : Fin 8, (wordFile digestWords)[i] = .word digestWords[i]) ∧
    (∀ i : Fin 8, (wordFile lastRound)[i] = .word lastRound[i]) := by decide

theorem witness_wait_states : (at11 0#4 0#7 0#2 3#61).ph = 0#4 ∧ (at11 9#4 0#7 0#2 3#61).ph = 9#4 ∧
    (at11 15#4 0#7 1#2 3#61).ph = 15#4 ∧ (at11 15#4 0#7 1#2 3#61).t = 0#7 ∧ (at11 15#4 0#7 1#2 3#61).agenda = [] := by
  decide

theorem witness_fault_entry : (at11 6#4 40#7 0#2 3#61).ph ≠ 15#4 := by decide

/-- The four clauses of START, each at the ends of its range: MLEN = 64 and 65, PH = 1 and 8. -/
theorem witness_start :
    (let s := at11 0#4 0#7 0#2 64#61; s.ph = 0#4 ∧ s.n ≤ s.cfg.maxMsgBytes.toNat) ∧
    (let s := at11 9#4 0#7 0#2 64#61; s.ph = 9#4 ∧ s.n ≤ s.cfg.maxMsgBytes.toNat) ∧
    (let s := at11 9#4 0#7 0#2 65#61; s.ph = 9#4 ∧ s.cfg.maxMsgBytes.toNat < s.n) ∧
    (1 ≤ (at11 1#4 0#7 0#2 3#61).ph.toNat ∧ (at11 8#4 0#7 0#2 3#61).ph.toNat ≤ 8) ∧
    (at11 15#4 0#7 1#2 3#61).ph = 15#4 := by decide

theorem witness_host_protocol :
    (at11 1#4 0#7 0#2 3#61).busy = true ∧ (at11 8#4 0#7 0#2 3#61).busy = true ∧
    (hostNext (.writeCtrl 1#1) (at11 1#4 0#7 0#2 3#61)).agenda = [.host (.writeCtrl 1#1)] ∧
    (hostNext (.writeMsg 64#61 0#8) (at11 8#4 0#7 0#2 3#61)).agenda = [.host (.writeMsg 64#61 0#8)] ∧
    (hostNext (.writeMlen 5#61) (at11 1#4 0#7 0#2 3#61)).agenda = [.host (.writeMlen 5#61)] ∧
    (hostNext (.readDig 63#6) (at11 1#4 0#7 0#2 3#61)).agenda = [.host (.readDig 63#6)] := by decide

/-- The last byte of MSG and the first address beyond it, while not BUSY; and a length beyond the capacity. -/
theorem witness_host_writes_and_outside :
    (at11 0#4 0#7 0#2 3#61).busy = false ∧ (63#61 : BitVec 61).toNat < (at11 0#4 0#7 0#2 3#61).cfg.maxMsgBytes.toNat ∧
    (at11 0#4 0#7 0#2 3#61).cfg.maxMsgBytes.toNat ≤ (64#61 : BitVec 61).toNat ∧
    (at11 0#4 0#7 0#2 65#61).cfg.maxMsgBytes.toNat < (at11 0#4 0#7 0#2 65#61).n := by decide

theorem witness_host_reads :
    (let s := hostNext (.readDig 63#6) { at11 9#4 0#7 0#2 3#61 with dig := [(63, 0x9f#8)] }
     s.agenda = [.host (.readDig 63#6)] ∧ s.ph = 9#4 ∧ s.dig.read (63#6 : BitVec 6).toNat = some 0x9f#8) ∧
    (hostNext (.readDig 0#6) (at11 8#4 0#7 0#2 3#61)).ph ≠ 9#4 ∧
    (hostNext .readStatus (at11 15#4 0#7 3#2 3#61)).agenda = [.host .readStatus] ∧
    (hostNext .readMlen (at11 0#4 0#7 0#2 3#61)).agenda = [.host .readMlen] := by decide

theorem witness_ignored_writes :
    (hostNext (.writeCtrl 0#1) State.reset).agenda = [.host (.writeCtrl 0#1)] ∧
    (hostNext (.writeStatus 31#5) State.reset).agenda = [.host (.writeStatus 31#5)] := by decide

theorem witness_reset_and_edge :
    (hostNext .reset (at11 15#4 0#7 1#2 3#61)).agenda = [.host .reset] ∧
    ({ at11 6#4 40#7 0#2 3#61 with agenda := [.edge .reset] } : State).agenda = [.edge .reset] ∧
    HostEvent.writeMlen 5#61 ≠ .reset ∧
    ({ at11 6#4 40#7 0#2 3#61 with agenda := [.edge (.writeMlen 5#61)] } : State).agenda = [.edge (.writeMlen 5#61)] := by
  decide

theorem witness_fault_is_sticky : (at11 15#4 0#7 1#2 3#61).agenda = [] ∧
    (∀ rest, (hostNext (.writeCtrl 1#1) (at11 15#4 0#7 1#2 3#61)).agenda ≠ .host .reset :: rest ∧
      (hostNext (.writeCtrl 1#1) (at11 15#4 0#7 1#2 3#61)).agenda ≠ .edge .reset :: rest) ∧
    isNext (step (hostNext (.writeCtrl 1#1) (at11 15#4 0#7 1#2 3#61))) = true :=
  ⟨by decide, fun _ => ⟨by simp [hostNext], by simp [hostNext]⟩, by decide⟩

theorem witness_digest_is_immutable :
    (∀ rest, (hostNext (.writeMlen 5#61) (at11 9#4 0#7 0#2 3#61)).agenda ≠ .host .reset :: rest ∧
      (hostNext (.writeMlen 5#61) (at11 9#4 0#7 0#2 3#61)).agenda ≠ .edge .reset :: rest ∧
      (hostNext (.writeMlen 5#61) (at11 9#4 0#7 0#2 3#61)).agenda ≠ .host (.writeCtrl 1#1) :: rest ∧
      (hostNext (.writeMlen 5#61) (at11 9#4 0#7 0#2 3#61)).agenda ≠ .edge (.writeCtrl 1#1) :: rest) ∧
    isNext (step (hostNext (.writeMlen 5#61) (at11 9#4 0#7 0#2 3#61))) = true :=
  ⟨fun _ => ⟨by simp [hostNext], by simp [hostNext], by simp [hostNext], by simp [hostNext]⟩, by decide⟩

/-- PARSE's check passes on block 0 of one block and fails on block 1; PAD answers a next state. -/
theorem witness_checks :
    ¬ paddedLength padded.n < 128 * padded.blk.toNat + 128 ∧
    paddedLength padded.n < 128 * (1#55 : BitVec 55).toNat + 128 ∧ padded.ph ≠ 15#4 ∧
    isNext (exec .pad (at11 1#4 0#7 0#2 3#61)) = true := by decide

/-- The control invariant in each of the eleven phases, at the first and the last index of SCHED and ROUND, and a step
from there. -/
theorem witness_control_invariant :
    ∀ x ∈ [(0#4, 0#7, 0#2), (1#4, 0#7, 0#2), (2#4, 0#7, 0#2), (3#4, 0#7, 0#2), (4#4, 16#7, 0#2), (4#4, 79#7, 0#2),
      (5#4, 0#7, 0#2), (6#4, 0#7, 0#2), (6#4, 79#7, 0#2), (7#4, 0#7, 0#2), (8#4, 0#7, 0#2), (9#4, 0#7, 0#2),
      (15#4, 0#7, 1#2)], (at11 x.1 x.2.1 x.2.2 3#61).ControlInv ∧ (at11 x.1 x.2.1 x.2.2 3#61).agenda = [] ∧
        isNext (step (at11 x.1 x.2.1 x.2.2 3#61)) = true := by
  intro x hx
  fin_cases hx <;> exact ⟨⟨⟨_, rfl⟩, by decide, by decide, by decide, by decide,
    by intro sp; cases sp <;> decide, by intro sp; cases sp <;> decide⟩, rfl, by decide⟩

/-- Both invariants hold in SERIALIZE with a hash state, and its step answers a next state. -/
theorem witness_data_invariant :
    let s := { at11 8#4 0#7 0#2 3#61 with h := wordFile digestWords }
    s.ControlInv ∧ s.DataInv ∧ s.agenda = [] ∧ s.ph ≠ 1#4 ∧ isNext (step s) = true := by
  refine ⟨⟨⟨_, rfl⟩, by decide, by decide, by decide, by decide, by intro sp; cases sp <;> decide,
      by intro sp; cases sp <;> decide⟩, ⟨fun _ h => absurd h (by decide), fun _ _ i => ?_, fun h => absurd h (by decide),
      fun h => absurd h (by decide), fun h => absurd h (by decide), fun h => absurd h (by decide)⟩, by decide, by decide,
      by decide⟩
  fin_cases i <;> (intro h; exact absurd h (by decide))

/-- Two states with the same control and different data, and a step from the first. -/
theorem witness_same_control :
    (at11 6#4 40#7 0#2 3#61).SameControl { at11 6#4 40#7 0#2 3#61 with v := wordFile lastRound, msg := [] } ∧
    isNext (step (at11 6#4 40#7 0#2 3#61)) = true := ⟨⟨rfl, rfl, rfl, rfl, rfl, rfl, rfl⟩, by decide⟩

theorem witness_composites :
    (padded.ph = 3#4 ∧ padded.t = 0#7 ∧ padded.agenda = []) ∧
    (let s := { at11 5#4 0#7 0#2 3#61 with h := wordFile initialHash, w := wordFile (Vector.replicate 80 1#64) }
     s.ph = 5#4 ∧ s.t = 0#7 ∧ s.agenda = [] ∧ s.h = wordFile initialHash ∧
       s.w = wordFile (Vector.replicate 80 1#64)) := ⟨by decide, rfl, rfl, rfl, rfl, rfl⟩

theorem witness_call :
    let s := hostNext (.writeCtrl 1#1) (at11 9#4 0#7 0#2 3#61)
    s.ph = 9#4 ∧ s.agenda = [.host (.writeCtrl 1#1)] ∧ s.HoldsMessage #v[0x61#8, 0x62#8, 0x63#8] ∧
      s.n ≤ s.cfg.maxMsgBytes.toNat ∧ 149 < 3 + 147 * blockCount s.n :=
  ⟨by decide, by decide, ⟨by decide, by decide⟩, by decide, by decide⟩

end Sys2Proof.Tests
end

section
/-! O29: every operation completes on unspecified storage too, each read of it being a draw. First what is read and
written cell by cell and register by register, whatever storage holds: the padded message, the parsed block, the digest.
Then result and frame of each operation that reads storage. -/

namespace Sys2Proof.Machine

/-! ### Reads -/

/-- A read of a cell is the byte listed, or the draw where none is (00_scope R9). -/
theorem State.cell_eq_getD (s : State) (sp : Space) (a k : Nat) :
    s.cell sp a k = ((s.space sp).read a).getD (Config.freeByte k) := by
  unfold State.cell
  cases (s.space sp).read a <;> rfl

/-- The words read off a file of registers, one draw a register (log 3, 4). -/
theorem wordFile_readFile {n : Nat} (f : Vector Reg n) (k : Nat) :
    wordFile (readFile f k) = Vector.ofFn fun i : Fin n => .word (f[i].read (k + i)) := by
  ext i hi; simp

/-- FOLD's result, register by register (43_compressor R162). -/
theorem wordFile_foldWords (h v : Vector Word 8) :
    wordFile (foldWords h v) = Vector.ofFn fun i : Fin 8 => .word (h[i] + v[i]) := by
  ext i hi; simp [foldWords, add64]

/-! ### The padded message (30_encoding R99, 41_padder R140) -/

@[simp] theorem getElem_tobe64 (w : Word) (i : Nat) (h : i < 8) : (tobe64 w)[i] = w.extractLsb' (56 - 8 * i) 8 := by
  simp [tobe64]

/-- The padded message byte by byte. -/
theorem getElem_padMessage {n : Nat} (m : Vector Byte n) (j : Nat) (hj : j < paddedLength n) :
    (padMessage m)[j] =
      if h : j < n then m[j]
      else if j = n then 0x80#8
      else if j < paddedLength n - 8 then 0x00#8
      else (BitVec.ofNat 64 (8 * n)).extractLsb' (56 - 8 * (j - (paddedLength n - 8))) 8 := by
  have hP : paddedLength n = n + 1 + padZeros n + 16 := rfl
  simp only [padMessage, Vector.getElem_cast, Vector.getElem_append]
  by_cases message : j < n
  · simp [message, show j < n + 1 by omega, show j < n + 1 + padZeros n by omega,
      show j < n + 1 + padZeros n + 8 by omega]
  by_cases marker : j = n
  · simp [marker, show n < n + 1 + padZeros n by omega, show n < n + 1 + padZeros n + 8 by omega]
  by_cases zeros : j < n + 1 + padZeros n
  · simp [message, marker, zeros, show ¬ j < n + 1 by omega, show j < n + 1 + padZeros n + 8 by omega,
      show j < paddedLength n - 8 by omega]
  by_cases upper : j < n + 1 + padZeros n + 8
  · simp [message, marker, zeros, upper, show j < paddedLength n - 8 by omega]
  · simp [message, marker, upper, show paddedLength n - 8 = n + 1 + padZeros n + 8 by omega]

/-- What a memory lists once a padded message is written at 0: every cell below P(n) is given, the others stay. -/
theorem Memory.read_writeAll_padMessage {n : Nat} (mem : Memory) (m : Vector Byte n) (a : Nat) :
    (mem.writeAll 0 (padMessage m).toList).read a =
      if h : a < n then some m[a]
      else if a = n then some 0x80#8
      else if a < 128 * ((n + 144) / 128) - 8 then some 0x00#8
      else if a < 128 * ((n + 144) / 128) then
        some ((BitVec.ofNat 64 (8 * n)).extractLsb' (56 - 8 * (a - (128 * ((n + 144) / 128) - 8))) 8)
      else mem.read a := by
  rw [Memory.read_writeAll_vector, ← blockCount_eq, ← paddedLength_eq]
  have fits : n + 17 ≤ paddedLength n := by unfold paddedLength; omega
  by_cases inside : a < paddedLength n
  · simp only [Nat.zero_le, Nat.sub_zero, inside, and_self, dite_true, getElem_padMessage, if_true]
    split_ifs <;> rfl
  · simp [inside, show ¬ a < n by omega, show a ≠ n by omega, show ¬ a < paddedLength n - 8 by omega]

/-! ### The parsed block (42_scheduler R150) -/

/-- PARSE's block lies within the padded length and the buffer when BLK is below N (41_padder R143). -/
theorem State.block_inside {s : State} (hblk : s.blk.toNat < blockCount s.n) (hfit : s.n ≤ s.cfg.maxMsgBytes.toNat) :
    s.blockAddr + 128 ≤ paddedLength s.n ∧ s.blockAddr + 128 ≤ s.size .pmb := by
  have lower : s.blockAddr + 128 ≤ paddedLength s.n := by rw [paddedLength_eq, State.blockAddr]; omega
  exact ⟨lower, lower.trans (paddedLength_le_size hfit)⟩

theorem getElem_parseInto (w : Vector Reg 80) (b : Vector Byte 128) (i : Fin 80) :
    (parseInto w b)[i] = if h : i.val < 16 then .word (blockWord b ⟨i.val, h⟩) else w[i] := by
  simp [parseInto]

/-! ### The digest (44_serializer R170) -/

/-- Byte `j` of word `i` in the serialized hash state. -/
theorem getElem_serializeWords (h : Vector Word 8) (i j : Fin 8) :
    (serializeWords h)[8 * i.val + j.val] = h[i].extractLsb' (56 - 8 * j.val) 8 := by
  have word : (8 * i.val + j.val) / 8 = i.val := by omega
  have byte : (8 * i.val + j.val) % 8 = j.val := by omega
  simp [serializeWords, word, byte]

/-- What a memory lists once a hash state is serialized at 0. -/
theorem Memory.read_writeAll_serializeWords (mem : Memory) (h : Vector Word 8) :
    (∀ i j : Fin 8, (mem.writeAll 0 (serializeWords h).toList).read (8 * i.val + j.val) =
      some (h[i].extractLsb' (56 - 8 * j.val) 8)) ∧
    ∀ a, 64 ≤ a → (mem.writeAll 0 (serializeWords h).toList).read a = mem.read a := by
  constructor
  · intro i j
    rw [Memory.read_writeAll_vector, dif_pos ⟨Nat.zero_le _, by omega⟩]
    exact congrArg some (getElem_serializeWords h i j)
  · intro a ha
    rw [Memory.read_writeAll_vector, dif_neg (by omega)]

/-! ### Result and frame of each operation on any contents of storage -/

/-- SCHED t (R151). -/
theorem exec_sched_result (s : State) (t : BitVec 7) (h16 : 16 ≤ t.toNat) (h79 : t.toNat ≤ 79) :
    exec (.sched t) s = .next { s with
      w := s.w.set t.toNat (.word (s.w[t.toNat - 16].read s.draws + smallSigma0 (s.w[t.toNat - 15].read (s.draws + 1)) +
        s.w[t.toNat - 7].read (s.draws + 2) + smallSigma1 (s.w[t.toNat - 2].read (s.draws + 3))))
      ph := if t.toNat < 79 then 4#4 else 5#4
      t := if t.toNat < 79 then t + 1#7 else 0#7
      draws := s.draws + 4 } :=
  execSched_next.mpr ⟨⟨h16, h79⟩, rfl⟩

/-- LOADV (R160). -/
theorem exec_loadv_result (s : State) : exec .loadv s = .next { s with
    v := Vector.ofFn fun i : Fin 8 => .word (s.h[i].read (s.draws + i))
    ph := 6#4
    t := 0#7
    draws := s.draws + 8 } := by
  rw [← wordFile_readFile]; rfl

/-- ROUND t (R161). -/
theorem exec_round_result (s : State) (t : BitVec 7) (h79 : t.toNat ≤ 79) : exec (.round t) s = .next { s with
    v := wordFile (roundStep (readFile s.v s.draws) roundConstants[t.toNat] (s.w[t.toNat].read (s.draws + 8)))
    ph := if t.toNat < 79 then 6#4 else 7#4
    t := if t.toNat < 79 then t + 1#7 else 0#7
    draws := s.draws + 9 } :=
  execRound_next.mpr ⟨h79, rfl⟩

/-- FOLD (R162). -/
theorem exec_fold_result (s : State) : exec .fold s = .next { s with
    h := Vector.ofFn fun i : Fin 8 => .word (s.h[i].read (s.draws + i) + s.v[i].read (s.draws + 8 + i))
    ph := if s.blk.toNat + 1 < blockCount s.n then 3#4 else 8#4
    t := 0#7
    blk := if s.blk.toNat + 1 < blockCount s.n then s.blk + 1#55 else s.blk
    draws := s.draws + 16 } := by
  have sums : (Vector.ofFn fun i : Fin 8 => Reg.word (s.h[i].read (s.draws + i) + s.v[i].read (s.draws + 8 + i))) =
      wordFile (foldWords (readFile s.h s.draws) (readFile s.v (s.draws + 8))) := by simp [wordFile_foldWords]
  rw [sums]
  exact execFold_eq s

/-- SERIALIZE (R170). -/
theorem exec_serialize_result (s : State) : exec .serialize s = .next { s with
    dig := s.dig.writeAll 0 (serializeWords (readFile s.h s.draws)).toList
    ph := 9#4
    t := 0#7
    draws := s.draws + 8 } := by
  rw [exec, execSerialize_eq, State.setPc, State.setDig, State.addDraws]

/-- PARSE of a block below N (R150). -/
theorem exec_parse_result {s : State} (hblk : s.blk.toNat < blockCount s.n) (hfit : s.n ≤ s.cfg.maxMsgBytes.toNat) :
    exec .parse s = .next { s with
      w := parseInto s.w (Vector.ofFn fun i : Fin 128 => s.cell .pmb (s.blockAddr + i) (s.draws + i))
      ph := 4#4
      t := 16#7
      draws := s.draws + 128 } := by
  obtain ⟨padded, buffered⟩ := State.block_inside hblk hfit
  rw [exec, execParse_eq, if_pos padded, if_pos buffered, State.setPc, State.setW, State.addDraws]

/-- PAD of a message MSG can hold (R140). -/
theorem exec_pad_result {s : State} (hfit : s.n ≤ s.cfg.maxMsgBytes.toNat) : exec .pad s = .next { s with
    pmb := s.pmb.writeAll 0
      (padMessage (Vector.ofFn fun i : Fin s.n => s.cell .msg (0 + i) (s.draws + i))).toList
    ph := 2#4
    t := 0#7
    blk := 0#55
    draws := s.draws + s.n } := by
  rw [exec, execPad_eq, if_pos hfit, State.setPc, State.setPmb, State.addDraws]

/-- Settles O29: each clause is the operation's result and frame, read cell by cell. -/
theorem unspecifiedStorageReadsAsDraws : Obligations.UnspecifiedStorageReadsAsDraws := by
  unfold Obligations.UnspecifiedStorageReadsAsDraws
  refine ⟨Reg.read_word, fun _ => rfl, exec_sched_result, exec_loadv_result, ?round, exec_fold_result, ?serialize,
    ?parse, ?pad⟩
  case round =>
    exact fun s t h79 => ⟨_, exec_round_result s t h79, rfl⟩
  case serialize =>
    intro s
    obtain ⟨cells, beyond⟩ := Memory.read_writeAll_serializeWords s.dig (readFile s.h s.draws)
    refine ⟨_, exec_serialize_result s, fun i j => ?_, beyond⟩
    rw [cells, Fin.getElem_fin, getElem_readFile]
    rfl
  case parse =>
    refine fun s hblk hfit => ⟨_, exec_parse_result hblk hfit, fun i => ?_⟩
    rw [getElem_parseInto]
    split
    · simp [blockWord, State.cell_eq_getD, State.blockAddr]
    · rfl
  case pad =>
    refine fun s hfit => ⟨_, exec_pad_result hfit, fun a => ?_⟩
    rw [Memory.read_writeAll_padMessage]
    simp [State.cell_eq_getD]

end Sys2Proof.Machine
end

section
/-! What a turn can do: the step on each form of the agenda, each host event once, and how a property of the state is
kept by every step (20_memory R73, 60_exceptions R207). -/

namespace Sys2Proof.Machine

/-! ### The step on each form of the agenda -/

theorem step_of_no_turn {s : State} (h : s.agenda = []) : step s = coreTurn s := by simp [step, takeTurn, h]

theorem step_of_core {s : State} {rest : List Turn} (h : s.agenda = .core :: rest) :
    step s = coreTurn (s.setAgenda rest) := by simp [step, takeTurn, h]

theorem step_of_host {s : State} {e : HostEvent} {rest : List Turn} (h : s.agenda = .host e :: rest) :
    step s = hostTurn e (s.setAgenda rest) := by simp [step, takeTurn, h]

theorem step_of_edge {s : State} {e : HostEvent} {rest : List Turn} (h : s.agenda = .edge e :: rest) :
    step s = edgeTurn e (s.setAgenda rest) := by simp [step, takeTurn, h]

/-- An edge that answers a next state is reset, or a micro-operation and then the event. -/
theorem edgeTurn_next {e : HostEvent} {s s' : State} (h : edgeTurn e s = .next s') :
    hostTurn e s = .next s' ∨ ∃ s₁, coreTurn s = .next s₁ ∧ hostTurn e s₁ = .next s' := by
  unfold edgeTurn at h
  split at h
  · exact .inl h
  · split at h
    · next s₁ hcore => exact .inr ⟨s₁, hcore, h⟩
    · cases h
    · cases h

/-- A property the agenda has no part in is kept by every step if the sequencer's turn and every host event keep it. -/
theorem step_keeps {P : State → Prop} (agenda : ∀ s l, P s → P (s.setAgenda l))
    (core : ∀ s s', P s → coreTurn s = .next s' → P s')
    (host : ∀ e s s', P s → hostTurn e s = .next s' → P s')
    {s s' : State} (hs : P s) (h : step s = .next s') : P s' := by
  match hturn : s.agenda with
  | [] => exact core s s' hs (step_of_no_turn hturn ▸ h)
  | .core :: rest => exact core _ s' (agenda s rest hs) (step_of_core hturn ▸ h)
  | .host e :: rest => exact host e _ s' (agenda s rest hs) (step_of_host hturn ▸ h)
  | .edge e :: rest =>
    obtain alone | ⟨s₁, hcore, hhost⟩ := edgeTurn_next (step_of_edge hturn ▸ h)
    · exact host e _ s' (agenda s rest hs) alone
    · exact host e s₁ s' (core _ s₁ (agenda s rest hs) hcore) hhost

/-! ### The host events -/

theorem hostTurn_start (s : State) : hostTurn (.writeCtrl 1#1) s = exec .start s := rfl

theorem hostTurn_writeCtrl_zero (s : State) : hostTurn (.writeCtrl 0#1) s = .next s := rfl

theorem hostTurn_writeMlen (n : BitVec 61) (s : State) : hostTurn (.writeMlen n) s =
    .next (if s.busy then s.raise causeHostProtocol else s.setMlen n) := by
  unfold hostTurn hostWriteMlen
  cases s.busy <;> rfl

theorem hostTurn_writeMsg (a : BitVec 61) (b : Byte) (s : State) : hostTurn (.writeMsg a b) s =
    if s.busy then .next (s.raise causeHostProtocol)
    else if a.toNat < s.cfg.maxMsgBytes.toNat then .next (s.setMsg (s.msg.write a.toNat b))
    else .fault (.outsideSpace .msg) := by
  unfold hostTurn hostWriteMsg
  by_cases inside : a.toNat < s.cfg.maxMsgBytes.toNat
  · simp [memWrite_inside (show a.toNat + 1 ≤ s.size .msg from inside), inside, Memory.writeAll]
  · simp [memWrite_outside (show s.size .msg < a.toNat + 1 by rw [State.size_msg]; omega), inside]

theorem hostTurn_readDig (a : BitVec 6) (s : State) : hostTurn (.readDig a) s =
    .next ((s.addDraws 1).addReply
      (.dig a (if s.isDone then s.cell .dig a.toNat s.draws else Config.freeByte s.draws))) := rfl

/-- What a host event can make of a state: reset it, run START, raise HOST_PROTOCOL, write MSG or MLEN while BUSY = 0,
give a reply, or leave it as it is (30_encoding R102, 60_exceptions R203). -/
theorem hostTurn_next {e : HostEvent} {s s' : State} (h : hostTurn e s = .next s') :
    s' = s.resetNow ∨ exec .start s = .next s' ∨ s' = s.raise causeHostProtocol ∨
    (s.busy = false ∧ ∃ m, s' = s.setMsg m) ∨ (s.busy = false ∧ ∃ n, s' = s.setMlen n) ∨
    (∃ k r, s' = (s.addDraws k).addReply r) ∨ s' = s := by
  cases e with
  | reset => cases h; simp
  | writeCtrl b =>
    obtain rfl | rfl : b = 0#1 ∨ b = 1#1 := by clear h; revert b; decide
    · cases h; simp
    · exact .inr (.inl h)
  | writeMsg a b =>
    rw [hostTurn_writeMsg] at h
    split at h
    · cases h; simp
    · next idle =>
      split at h
      · cases h; simp [idle]
      · cases h
  | writeMlen n =>
    rw [hostTurn_writeMlen] at h
    cases h
    cases s.busy <;> simp
  | writeStatus v => cases h; simp
  | readMlen => cases h; exact .inr (.inr (.inr (.inr (.inr (.inl ⟨0, _, rfl⟩)))))
  | readStatus => cases h; exact .inr (.inr (.inr (.inr (.inr (.inl ⟨0, _, rfl⟩)))))
  | readDig a => cases h; exact .inr (.inr (.inr (.inr (.inr (.inl ⟨1, _, rfl⟩)))))

end Sys2Proof.Machine
end

section
/-! O45: each phase finds written what it will read. The invariant is first read phase by phase, as facts about one
file of registers or one memory; then each operation has one small fact to show. -/

namespace Sys2Proof.Machine

/-! ### Written storage -/

/-- A memory lists its first `k` cells. -/
def Memory.WrittenTo (m : Memory) (k : Nat) : Prop := ∀ a < k, m.read a ≠ none

/-- The first `k` registers of a file hold words. -/
def SpecifiedTo {n : Nat} (f : Vector Reg n) (k : Nat) : Prop := ∀ i : Fin n, i.val < k → f[i].Specified

theorem Memory.writtenTo_writeAll {n : Nat} (m : Memory) (v : Vector Byte n) :
    (m.writeAll 0 v.toList).WrittenTo n := by
  intro a ha
  simp [Memory.read_writeAll_vector, ha]

theorem specifiedTo_all {n : Nat} {f : Vector Reg n} : SpecifiedTo f n ↔ ∀ i : Fin n, f[i].Specified :=
  forall_congr' fun i => by simp

theorem specifiedTo_wordFile {n : Nat} (f : Vector Word n) : SpecifiedTo (wordFile f) n := by
  intro i _
  simp

theorem SpecifiedTo.set {n t : Nat} {f : Vector Reg n} (h : SpecifiedTo f t) (ht : t < n) (x : Word) :
    SpecifiedTo (f.set t (.word x)) (t + 1) := by
  intro i hi
  by_cases here : t = i.val
  · simp [here]
  · simpa [Vector.getElem_set, here] using h i (by omega)

theorem specifiedTo_parseInto (w : Vector Reg 80) (b : Vector Byte 128) : SpecifiedTo (parseInto w b) 16 := by
  intro i hi
  simp [getElem_parseInto w b i, hi]

/-- The invariant, phase by phase: for a known phase `simp` leaves exactly what that phase asks. -/
theorem State.dataInv_iff (s : State) : s.DataInv ↔
    (2 ≤ s.ph.toNat → s.ph.toNat ≤ 7 → s.pmb.WrittenTo (paddedLength s.n)) ∧
    (3 ≤ s.ph.toNat → s.ph.toNat ≤ 8 → SpecifiedTo s.h 8) ∧
    (s.ph.toNat = 4 → SpecifiedTo s.w s.t.toNat) ∧
    (s.ph.toNat = 5 ∨ s.ph.toNat = 6 → SpecifiedTo s.w 80) ∧
    (s.ph.toNat = 6 ∨ s.ph.toNat = 7 → SpecifiedTo s.v 8) ∧
    (s.ph.toNat = 9 → s.dig.WrittenTo 64) := by
  have phase (p : BitVec 4) : s.ph.toNat = p.toNat ↔ s.ph = p := BitVec.toNat_inj
  simp only [specifiedTo_all, show s.ph.toNat = 4 ↔ s.ph = phSched from phase phSched,
    show s.ph.toNat = 5 ↔ s.ph = phLoadv from phase phLoadv, show s.ph.toNat = 6 ↔ s.ph = phRound from phase phRound,
    show s.ph.toNat = 7 ↔ s.ph = phFold from phase phFold, show s.ph.toNat = 9 ↔ s.ph = phDone from phase phDone]
  exact ⟨fun ⟨padded, hash, partialSchedule, schedule, working, digest⟩ =>
      ⟨padded, hash, partialSchedule, schedule, working, digest⟩,
    fun ⟨padded, hash, partialSchedule, schedule, working, digest⟩ =>
      ⟨padded, hash, partialSchedule, schedule, working, digest⟩⟩

/-- IDLE, PAD and FAULT read nothing the block has written. -/
theorem State.dataInv_of_idle_pad_fault {s : State} (h : s.ph = phIdle ∨ s.ph = phPad ∨ s.ph = phFault) :
    s.DataInv := by
  rw [State.dataInv_iff]
  obtain h | h | h := h <;> simp [h]

/-! ### Every turn keeps the invariant -/

theorem State.raise_dataInv (s : State) (c : BitVec 2) : (s.raise c).DataInv :=
  State.dataInv_of_idle_pad_fault (by simp)

theorem execStart_keeps_dataInv {s s' : State} (hi : s.DataInv) (h : exec .start s = .next s') : s'.DataInv := by
  rw [exec, execStart_eq] at h
  cases h
  split_ifs
  · exact s.raise_dataInv _
  · exact State.dataInv_of_idle_pad_fault (by simp)
  · exact s.raise_dataInv _
  · exact hi

/-- Each operation writes what the phase it leads to will read, and keeps what was written for later phases. -/
theorem exec_keeps_dataInv {s s' : State} {i : Instr} (hi : s.DataInv) (hf : s.fetch = .ok i)
    (h : exec i s = .next s') : s'.DataInv := by
  have inv := s.dataInv_iff.mp hi
  rw [State.fetch_ok_iff] at hf
  cases i with
  | idle => cases h; exact hi
  | done => cases h; exact hi
  | fault => cases h; exact hi
  | start => exact hf.elim
  | pad =>
    obtain ⟨-, rfl⟩ := execPad_next.mp h
    simpa [State.dataInv_iff] using Memory.writtenTo_writeAll s.pmb _
  | seed =>
    cases h
    have padded : s.pmb.WrittenTo (paddedLength s.n) := by simpa [hf.1] using inv
    simpa [State.dataInv_iff, padded] using specifiedTo_wordFile initialHash
  | parse =>
    have ⟨padded, hash⟩ : s.pmb.WrittenTo (paddedLength s.n) ∧ SpecifiedTo s.h 8 := by simpa [hf.1] using inv
    obtain ⟨-, -, rfl⟩ | ⟨-, rfl⟩ := execParse_next.mp h
    · simpa [State.dataInv_iff, padded, hash] using specifiedTo_parseInto s.w _
    · exact s.raise_dataInv _
  | sched t =>
    obtain ⟨hph, rfl, -⟩ := hf
    have ⟨padded, hash, words⟩ : s.pmb.WrittenTo (paddedLength s.n) ∧ SpecifiedTo s.h 8 ∧
      SpecifiedTo s.w s.t.toNat := by simpa [hph] using inv
    obtain ⟨⟨-, h79⟩, rfl⟩ := execSched_next.mp h
    by_cases last : s.t.toNat < 79
    · have next : (s.t + 1#7).toNat = s.t.toNat + 1 := by bv_omega
      simpa [State.dataInv_iff, padded, hash, last, -BitVec.toNat_add, next] using words.set _ _
    · have eq79 : s.t.toNat = 79 := by omega
      simpa [State.dataInv_iff, padded, hash, eq79] using words.set (by omega) _
  | loadv =>
    cases h
    have ⟨padded, hash, words⟩ : s.pmb.WrittenTo (paddedLength s.n) ∧ SpecifiedTo s.h 8 ∧ SpecifiedTo s.w 80 := by
      simpa [hf.1] using inv
    simpa [State.dataInv_iff, padded, hash, words] using specifiedTo_wordFile _
  | round t =>
    have ⟨padded, hash, words, _⟩ : s.pmb.WrittenTo (paddedLength s.n) ∧ SpecifiedTo s.h 8 ∧ SpecifiedTo s.w 80 ∧
      SpecifiedTo s.v 8 := by simpa [hf.1] using inv
    obtain ⟨-, rfl⟩ := execRound_next.mp h
    by_cases last : t.toNat < 79 <;>
      simpa [State.dataInv_iff, padded, hash, words, last] using specifiedTo_wordFile _
  | fold =>
    have ⟨padded, _⟩ : s.pmb.WrittenTo (paddedLength s.n) ∧ SpecifiedTo s.h 8 ∧ SpecifiedTo s.v 8 := by
      simpa [hf.1] using inv
    rw [exec, execFold_eq] at h
    cases h
    by_cases last : s.blk.toNat + 1 < blockCount s.n <;>
      simpa [State.dataInv_iff, padded, last] using specifiedTo_wordFile _
  | serialize =>
    rw [exec, execSerialize_eq] at h
    cases h
    simpa [State.dataInv_iff] using Memory.writtenTo_writeAll s.dig _

theorem hostTurn_keeps_dataInv {e : HostEvent} {s s' : State} (hi : s.DataInv) (h : hostTurn e s = .next s') :
    s'.DataInv := by
  obtain rfl | hstart | rfl | ⟨-, m, rfl⟩ | ⟨idle, n, rfl⟩ | ⟨k, r, rfl⟩ | rfl := hostTurn_next h
  · exact State.dataInv_of_idle_pad_fault (by simp)
  · exact execStart_keeps_dataInv hi hstart
  · exact s.raise_dataInv _
  · exact ⟨hi.padded, hi.hash, hi.partialSchedule, hi.schedule, hi.working, hi.digest⟩
  · -- the padded length follows MLEN, which the host changes only while no phase relies on it
    have notBusy : ¬ (1 ≤ s.ph.toNat ∧ s.ph.toNat ≤ 8) := by simp [← State.busy_iff, idle]
    have unread : 2 ≤ s.ph.toNat → s.ph.toNat ≤ 7 → False := by omega
    exact ⟨fun h2 h7 => (unread h2 h7).elim, hi.hash, hi.partialSchedule, hi.schedule, hi.working, hi.digest⟩
  · exact ⟨hi.padded, hi.hash, hi.partialSchedule, hi.schedule, hi.working, hi.digest⟩
  · exact hi

/-- Settles O45: the sequencer's turn and every host event keep the invariant, so every step does. -/
theorem writtenBeforeReadIsKept : Obligations.WrittenBeforeReadIsKept := by
  intro s s' hi h
  refine step_keeps (P := State.DataInv) (fun s l hi => ?agenda) (fun s s' hi h => ?core)
    (fun e s s' hi h => hostTurn_keeps_dataInv hi h) hi h
  case agenda => exact ⟨hi.padded, hi.hash, hi.partialSchedule, hi.schedule, hi.working, hi.digest⟩
  case core =>
    obtain ⟨i, hf, hx⟩ := coreTurn_next.mp h
    exact exec_keeps_dataInv hi hf hx

end Sys2Proof.Machine
end

section
/-! O49: which operation can write which state, operation by operation (10_state R43). -/

namespace Sys2Proof.Machine

/-- MSG, MLEN, the parameters and the host's own fields are as they were. -/
def State.SameHostSide (s s' : State) : Prop :=
  s'.msg = s.msg ∧ s'.mlen = s.mlen ∧ s'.cfg = s.cfg ∧ s'.agenda = s.agenda ∧ s'.replies = s.replies

/-- The step from `s` to `s'` enters FAULT. -/
def State.EntersFault (s s' : State) : Prop := s.isFault = false ∧ s'.isFault = true

/-- FCAUSE and every column of the data state in which `i` has no entry are as they were (10_state R43). -/
def KeepsOtherColumns (i : Instr) (s s' : State) : Prop :=
  s'.fcause = s.fcause ∧ (s'.h = s.h ∨ i = .seed ∨ i = .fold) ∧ (s'.v = s.v ∨ i = .loadv ∨ ∃ t, i = .round t) ∧
  (s'.w = s.w ∨ i = .parse ∨ ∃ t, i = .sched t) ∧ (s'.pmb = s.pmb ∨ i = .pad) ∧
  (s'.dig = s.dig ∨ i = .start ∨ i = .serialize)

/-- `i` can take `s` to `s'` under the access matrix: it enters FAULT and may, or writes its own columns alone. -/
def WithinMatrix (i : Instr) (s s' : State) : Prop :=
  s.SameHostSide s' ∧ ((s.EntersFault s' ∧ (i = .pad ∨ i = .parse ∨ i = .start)) ∨ KeepsOtherColumns i s s')

theorem withinMatrix_refl (i : Instr) (s : State) : WithinMatrix i s s := by
  simp [WithinMatrix, State.SameHostSide, KeepsOtherColumns]

/-- Taking a fault enters FAULT, or changes nothing there. -/
theorem withinMatrix_raise {i : Instr} (may : i = .pad ∨ i = .parse ∨ i = .start) (s : State) (c : BitVec 2) :
    WithinMatrix i s (s.raise c) := by
  by_cases h : s.ph = phFault
  · rw [State.raise_of_eq h]
    exact withinMatrix_refl i s
  · have host : s.SameHostSide (s.raise c) := by simp [State.raise_of_ne h, State.SameHostSide]
    exact ⟨host, .inl ⟨⟨by simpa [State.isFault] using h, s.raise_isFault c⟩, may⟩⟩

/-- Every operation stays within the matrix. -/
theorem exec_withinMatrix {i : Instr} {s s' : State} (h : exec i s = .next s') : WithinMatrix i s s' := by
  cases i with
  | idle => cases h; exact withinMatrix_refl _ s
  | done => cases h; exact withinMatrix_refl _ s
  | fault => cases h; exact withinMatrix_refl _ s
  | pad =>
    obtain ⟨-, rfl⟩ := execPad_next.mp h
    simp [WithinMatrix, State.SameHostSide, KeepsOtherColumns]
  | seed =>
    cases h
    simp [WithinMatrix, State.SameHostSide, KeepsOtherColumns]
  | parse =>
    obtain ⟨-, -, rfl⟩ | ⟨-, rfl⟩ := execParse_next.mp h
    · simp [WithinMatrix, State.SameHostSide, KeepsOtherColumns]
    · exact withinMatrix_raise (by simp) s _
  | sched t =>
    obtain ⟨-, rfl⟩ := execSched_next.mp h
    simp [WithinMatrix, State.SameHostSide, KeepsOtherColumns]
  | loadv =>
    cases h
    simp [WithinMatrix, State.SameHostSide, KeepsOtherColumns]
  | round t =>
    obtain ⟨-, rfl⟩ := execRound_next.mp h
    simp [WithinMatrix, State.SameHostSide, KeepsOtherColumns]
  | fold =>
    rw [exec, execFold_eq] at h
    cases h
    simp [WithinMatrix, State.SameHostSide, KeepsOtherColumns]
  | serialize =>
    rw [exec, execSerialize_eq] at h
    cases h
    simp [WithinMatrix, State.SameHostSide, KeepsOtherColumns]
  | start =>
    rw [exec, execStart_eq] at h
    cases h
    split_ifs
    · exact withinMatrix_raise (by simp) s _
    · simp [WithinMatrix, State.SameHostSide, KeepsOtherColumns]
    · exact withinMatrix_raise (by simp) s _
    · exact withinMatrix_refl _ s

/-- Settles O49: FCAUSE moves only where FAULT is entered, and the rest is each operation's row of the matrix. -/
theorem accessMatrix : Obligations.AccessMatrix := by
  intro i s s' h
  obtain ⟨⟨hmsg, hmlen, hcfg, hagenda, hreplies⟩, ⟨⟨before, after⟩, may⟩ | ⟨hcause, columns⟩⟩ := exec_withinMatrix h
  · exact ⟨hmsg, hmlen, hcfg, hagenda, hreplies, .inr ⟨before, after⟩, .inl ⟨before, after, may⟩⟩
  · exact ⟨hmsg, hmlen, hcfg, hagenda, hreplies, .inl hcause, .inr columns⟩

end Sys2Proof.Machine
end

section
/-! O51: a read of written storage does not depend on the draw, and under the invariants every operation but PAD reads
written storage alone (10_state R41, 70_reset_and_hazards R232, R233). -/

namespace Sys2Proof.Machine

/-- The number of the next draw does not matter for a file that holds words. -/
theorem readFile_irrel {n : Nat} {f : Vector Reg n} (h : SpecifiedTo f n) (k k' : Nat) :
    readFile f k = readFile f k' := by
  refine Vector.ext fun i hi => ?_
  rw [getElem_readFile, getElem_readFile]
  exact Reg.read_irrel (h ⟨i, hi⟩ hi) _ _

theorem SpecifiedTo.read_irrel {n t : Nat} {f : Vector Reg n} (h : SpecifiedTo f t) {i : Nat} (hi : i < n) (hit : i < t)
    (k k' : Nat) : f[i].read k = f[i].read k' := Reg.read_irrel (h ⟨i, hi⟩ hit) k k'

/-- Nor for a cell the memory lists. -/
theorem State.cell_irrel {s : State} {sp : Space} {a : Nat} (h : (s.space sp).read a ≠ none) (k k' : Nat) :
    s.cell sp a k = s.cell sp a k' := by
  obtain ⟨b, hb⟩ := Option.ne_none_iff_exists'.mp h
  rw [State.cell_of_some hb, State.cell_of_some hb]

/-- From every state of both invariants each operation the sequencer fetches, but PAD, answers the same next state
whatever the next draw is numbered. -/
theorem exec_draws_irrel {s s' : State} {i : Instr} (hc : s.ControlInv) (hd : s.DataInv) (hf : s.fetch = .ok i)
    (hpad : i ≠ .pad) (k : Nat) (h : exec i s = .next s') :
    ∃ k', exec i { s with draws := k } = .next { s' with draws := k' } := by
  obtain ⟨padded, hash, partialSchedule, schedule, working, -⟩ := s.dataInv_iff.mp hd
  rw [State.fetch_ok_iff] at hf
  cases i with
  | pad => exact absurd rfl hpad
  | start => exact hf.elim
  | idle => cases h; exact ⟨k, rfl⟩
  | done => cases h; exact ⟨k, rfl⟩
  | fault => cases h; exact ⟨k, rfl⟩
  | seed => cases h; exact ⟨k, rfl⟩
  | parse =>
    have padded := padded (by simp [hf.1]) (by simp [hf.1])
    have hblk : s.blk.toNat < blockCount s.n := hc.blkRange (by simp [hf.1]) (by simp [hf.1])
    have hfit : s.n ≤ s.cfg.maxMsgBytes.toNat := hc.length (by simp [State.busy, hf.1])
    have listed (i : Fin 128) : (s.space .pmb).read (s.blockAddr + i) ≠ none :=
      padded _ (by have := (State.block_inside hblk hfit).1; omega)
    have block : (Vector.ofFn fun i : Fin 128 => s.cell .pmb (s.blockAddr + i) (s.draws + i)) =
        Vector.ofFn fun i : Fin 128 => s.cell .pmb (s.blockAddr + i) (k + i) :=
      congrArg Vector.ofFn (funext fun i => State.cell_irrel (listed i) _ _)
    rw [exec_parse_result hblk hfit, block] at h
    cases h
    exact ⟨_, exec_parse_result (s := { s with draws := k }) hblk hfit⟩
  | sched t =>
    obtain ⟨hph, rfl, h16, h79⟩ := hf
    have words := partialSchedule (by simp [hph])
    rw [exec_sched_result s s.t h16 h79, words.read_irrel (by omega) (by omega) s.draws k,
      words.read_irrel (by omega) (by omega) (s.draws + 1) (k + 1),
      words.read_irrel (by omega) (by omega) (s.draws + 2) (k + 2),
      words.read_irrel (by omega) (by omega) (s.draws + 3) (k + 3)] at h
    cases h
    exact ⟨_, exec_sched_result { s with draws := k } s.t h16 h79⟩
  | loadv =>
    have hash := hash (by simp [hf.1]) (by simp [hf.1])
    rw [exec, execLoadv, readFile_irrel hash s.draws k] at h
    cases h
    exact ⟨_, rfl⟩
  | round t =>
    have words := schedule (by simp [hf.1])
    have working := working (by simp [hf.1])
    rw [exec_round_result s t hf.2.2, readFile_irrel working s.draws k,
      words.read_irrel (by omega) (by omega) (s.draws + 8) (k + 8)] at h
    cases h
    exact ⟨_, exec_round_result { s with draws := k } t hf.2.2⟩
  | fold =>
    have hash := hash (by simp [hf.1]) (by simp [hf.1])
    have working := working (by simp [hf.1])
    rw [exec, execFold_eq, readFile_irrel hash s.draws k, readFile_irrel working (s.draws + 8) (k + 8)] at h
    cases h
    exact ⟨_, execFold_eq { s with draws := k }⟩
  | serialize =>
    have hash := hash (by simp [hf.1]) (by simp [hf.1])
    rw [exec_serialize_result, readFile_irrel hash s.draws k] at h
    cases h
    exact ⟨k + 8, by rw [exec_serialize_result]⟩

/-- Settles O51: the sequencer fetches the same operation, and that operation does not depend on the draws. -/
theorem onlyPadDraws : Obligations.OnlyPadDraws := by
  intro s s' k hc hd hagenda hph h
  obtain ⟨i, hf, hx⟩ := coreTurn_next.mp (step_of_no_turn hagenda ▸ h)
  have hpad : i ≠ .pad := by
    rintro rfl
    exact hph ((s.fetch_ok_iff _).mp hf).1
  obtain ⟨k', hk⟩ := exec_draws_irrel hc hd hf hpad k hx
  exact ⟨k', (step_of_no_turn (s := { s with draws := k }) hagenda).trans (coreTurn_next.mpr ⟨i, hf, hk⟩)⟩

end Sys2Proof.Machine
end
section
/-! O14: the ROMs against the roots of the first primes (10_state R25, R26). -/

namespace Sys2Proof.Machine

/-- The first 80 primes. -/
def firstPrimes : Vector Nat 80 :=
  #v[2, 3, 5, 7, 11, 13, 17, 19, 23, 29, 31, 37, 41, 43, 47, 53, 59, 61, 67, 71, 73, 79, 83, 89, 97, 101, 103, 107, 109,
    113, 127, 131, 137, 139, 149, 151, 157, 163, 167, 173, 179, 181, 191, 193, 197, 199, 211, 223, 227, 229, 233, 239,
    241, 251, 257, 263, 269, 271, 277, 281, 283, 293, 307, 311, 313, 317, 331, 337, 347, 349, 353, 359, 367, 373, 379,
    383, 389, 397, 401, 409]

/-- Trial division up to 409 finds exactly these. -/
theorem trialDivision_eq_firstPrimes :
    ((List.range 410).filter fun p => 2 ≤ p && (List.range p).all fun d => d < 2 || p % d != 0) =
      firstPrimes.toList := by
  decide +kernel

theorem roundConstants_cubeRoots : ∀ t : Fin 80, ∃ q < 8,
    (q * 2 ^ 64 + roundConstants[t].toNat) ^ 3 ≤ firstPrimes[t] * 2 ^ 192 ∧
      firstPrimes[t] * 2 ^ 192 < (q * 2 ^ 64 + roundConstants[t].toNat + 1) ^ 3 := by
  decide +kernel

theorem initialHash_squareRoots : ∀ i : Fin 8, ∃ q < 8,
    (q * 2 ^ 64 + initialHash[i].toNat) ^ 2 ≤ firstPrimes[i.val] * 2 ^ 128 ∧
      firstPrimes[i.val] * 2 ^ 128 < (q * 2 ^ 64 + initialHash[i].toNat + 1) ^ 2 := by
  decide +kernel

/-- Settles O14: each word's cube or square brackets its prime, for the primes trial division finds. -/
theorem romsAreRootsOfPrimes : Obligations.RomsAreRootsOfPrimes := by
  unfold Obligations.RomsAreRootsOfPrimes
  rw [trialDivision_eq_firstPrimes]
  have prime {i p : Nat} (hi : i < 80) (h : firstPrimes.toList[i]? = some p) : p = firstPrimes[i] := by
    simpa [hi, eq_comm] using h
  refine ⟨Vector.length_toList, fun t p hp => ?_, fun i p hp => ?_⟩
  · rw [prime t.isLt hp]
    exact roundConstants_cubeRoots t
  · rw [prime (i.isLt.trans (by decide)) hp]
    exact initialHash_squareRoots i

end Sys2Proof.Machine
end

section
/-! O33, O35, O36: what the host's writes and reads do, one turn of the host each (10_state R31 to R36, 44_serializer
R171). -/

namespace Sys2Proof.Machine

/-- Settles O33: with BUSY = 0 neither write is dropped, and the byte written is inside MSG. -/
theorem hostWritesWhileNotBusy : Obligations.HostWritesWhileNotBusy := by
  intro s rest idle
  refine ⟨fun n hturn => ?mlen, fun a b hturn inside =>
    ⟨s.msg.write a.toNat b, ?msg, fun x => Memory.read_write s.msg a.toNat x b⟩⟩
  case mlen =>
    rw [step_of_host hturn, hostTurn_writeMlen, State.setAgenda_busy, idle]
    rfl
  case msg =>
    rw [step_of_host hturn, hostTurn_writeMsg, State.setAgenda_busy, idle, if_neg Bool.false_ne_true,
      State.setAgenda_cfg, if_pos inside]
    rfl

/-- The five bits of STATUS as a number (10_state R32). -/
theorem State.toNat_status (s : State) : s.status.toNat =
    (if 1 ≤ s.ph.toNat ∧ s.ph.toNat ≤ 8 then 1 else 0) + (if s.ph = 9#4 then 2 else 0) +
      (if s.ph = 15#4 then 4 else 0) + 8 * s.fcause.toNat := by
  unfold State.status State.busy State.isDone State.isFault
  generalize s.ph = p
  generalize s.fcause = c
  revert p c
  decide

/-- Settles O35: each read is one reply on the state the turn finds. -/
theorem hostReadsReturn : Obligations.HostReadsReturn := by
  intro s rest
  refine ⟨fun hturn => ?mlen, fun hturn => ⟨s.status, ?status, s.toNat_status⟩,
    fun a b hturn hph hb => ⟨s.draws + 1, ?done⟩, fun a hturn hph => ⟨s.draws + 1, ?draw⟩⟩
  case mlen => exact step_of_host hturn
  case status => exact step_of_host hturn
  case done =>
    have byte : (s.setAgenda rest).cell .dig a.toNat s.draws = b :=
      State.cell_of_some (sp := .dig) hb _
    have done : (s.setAgenda rest).isDone = true := (State.isDone_iff _).mpr hph
    rw [step_of_host hturn, hostTurn_readDig, done, if_pos rfl, State.setAgenda_draws, byte]
    rfl
  case draw =>
    have notDone : ¬ (s.setAgenda rest).isDone = true := fun h => hph ((State.isDone_iff _).mp h)
    rw [step_of_host hturn, hostTurn_readDig, if_neg notDone]
    rfl

/-- Settles O36: neither event is a command of the block. -/
theorem ignoredHostWrites : Obligations.IgnoredHostWrites := by
  intro s rest x
  exact ⟨fun hturn => (step_of_host hturn).trans (hostTurn_writeCtrl_zero _), fun hturn => step_of_host hturn⟩

end Sys2Proof.Machine
end

section
/-! O37, O38, O46: the flags, and the state after reset (10_state R30, R41). -/

namespace Sys2Proof.Machine

/-- In IDLE no flag is 1, and in the phase of every other operation one is. -/
theorem State.no_flag_iff_idle {s : State} {i : Instr} (hf : s.fetch = .ok i) :
    (s.busy = false ∧ s.isDone = false ∧ s.isFault = false) ↔ s.ph = 0#4 := by
  rw [State.fetch_ok_iff] at hf
  unfold State.busy State.isDone State.isFault
  cases i with
  | start => exact hf.elim
  | _ => simp [hf.1, phDone, phFault]

/-- Settles O37: the phases of the three flags are disjoint, and only IDLE among the operations is in none of them. -/
theorem flagsDecodePhase : Obligations.FlagsDecodePhase := by
  intro s
  refine ⟨s.busy_iff, s.isDone_iff, s.isFault_iff, ?atMostOne, fun i hf => State.no_flag_iff_idle hf⟩
  unfold State.busy State.isDone State.isFault
  generalize s.ph = p
  revert p
  decide

theorem resetWith_fetch (cfg : Config) : (State.resetWith cfg).fetch = .ok .idle :=
  (State.fetch_ok_iff _ _).mpr ⟨rfl, rfl⟩

theorem resetWith_space (cfg : Config) (sp : Space) : (State.resetWith cfg).space sp = [] := by cases sp <;> rfl

/-- Settles O38: the fields of reset, and IDLE, which changes nothing, as its operation. -/
theorem resetState : Obligations.ResetState := by
  have idles : step State.reset = .next State.reset :=
    (step_of_no_turn rfl).trans (coreTurn_next.mpr ⟨.idle, resetWith_fetch _, rfl⟩)
  refine ⟨rfl, rfl, rfl, rfl, rfl, rfl, rfl, rfl, fun i => ⟨?h, ?v⟩, fun i => ?w, fun sp a => ?memory,
    resetWith_fetch _, idles⟩
  case h => exact getElem_unspecifiedFile 8 i i.isLt
  case v => exact getElem_unspecifiedFile 8 i i.isLt
  case w => exact getElem_unspecifiedFile 80 i i.isLt
  case memory => rw [State.reset, resetWith_space, Memory.read_nil]

/-- Settles O46: after reset no call runs and every memory is empty. -/
theorem resetMeetsTheInvariants : Obligations.ResetMeetsTheInvariants := by
  intro cfg
  have idle : (State.resetWith cfg).ph = phIdle := rfl
  refine ⟨?control, State.dataInv_of_idle_pad_fault (.inl idle)⟩
  exact {
    control := ⟨.idle, resetWith_fetch cfg⟩
    blkRange := by simp [idle]
    blkStart := fun _ => rfl
    length := by simp [State.busy, idle]
    cause := by simp [State.isFault, State.resetWith, phFault]
    canonical := by simp [resetWith_space, Memory.wf]
    inside := by simp [resetWith_space] }

end Sys2Proof.Machine
end

section
/-! O13: the big-endian byte order as arithmetic on values (20_memory R62). -/

namespace Sys2Proof.Machine

/-- Appending puts the left operand above the bits of the right one. -/
theorem toNat_append_eq_mul_add {m n : Nat} (x : BitVec m) (y : BitVec n) :
    (x ++ y).toNat = x.toNat * 2 ^ n + y.toNat := by
  rw [BitVec.toNat_append, ← Nat.shiftLeft_add_eq_or_of_lt y.isLt, Nat.shiftLeft_eq]

theorem toNat_be64 (s : Vector Byte 8) : (be64 s).toNat =
    s[0].toNat * 2 ^ 56 + s[1].toNat * 2 ^ 48 + s[2].toNat * 2 ^ 40 + s[3].toNat * 2 ^ 32 +
    s[4].toNat * 2 ^ 24 + s[5].toNat * 2 ^ 16 + s[6].toNat * 2 ^ 8 + s[7].toNat := by
  simp only [be64, toNat_append_eq_mul_add]
  omega

theorem toNat_getElem_tobe64 (w : Word) (i : Nat) (hi : i < 8) :
    (tobe64 w)[i].toNat = w.toNat / 2 ^ (56 - 8 * i) % 256 := by
  rw [getElem_tobe64, BitVec.extractLsb'_toNat, Nat.shiftRight_eq_div_pow]

/-- The bytes of a word are adjacent slices of it, so appending them gives the word back. -/
theorem be64_tobe64 (w : Word) : be64 (tobe64 w) = w := by
  simp (disch := decide) only [be64, getElem_tobe64, BitVec.extractLsb'_append_extractLsb'_eq_extractLsb']
  exact BitVec.extractLsb'_eq_self

/-- Each byte of a word is the remainder of the quotient that drops the bytes below it. -/
theorem tobe64_be64 (s : Vector Byte 8) : tobe64 (be64 s) = s := by
  refine Vector.ext fun i hi => BitVec.eq_of_toNat_eq ?_
  rw [toNat_getElem_tobe64, toNat_be64]
  interval_cases i <;> omega

/-- Settles O13: both formulas, and that each function undoes the other. -/
theorem bigEndianWords : Obligations.BigEndianWords :=
  ⟨toNat_be64, fun w i => toNat_getElem_tobe64 w i i.isLt, be64_tobe64, tobe64_be64⟩

end Sys2Proof.Machine
end

section
/-! O15: the two outcomes of MemRead and MemWrite, from the rules of the access and of the memory (20_memory R61). -/

namespace Sys2Proof.Machine

@[simp] theorem State.space_setSpace (s : State) (sp : Space) (m : Memory) : (s.setSpace sp m).space sp = m := by
  cases sp <;> rfl

theorem State.space_setSpace_of_ne {other sp : Space} (h : other ≠ sp) (s : State) (m : Memory) :
    (s.setSpace sp m).space other = s.space other := by
  cases sp <;> cases other <;> simp_all

/-- Replacing the contents of a space changes the three memories at most. -/
theorem State.setSpace_frame (s : State) (sp : Space) (m : Memory) :
    s.setSpace sp m =
      { s with msg := (s.setSpace sp m).msg, pmb := (s.setSpace sp m).pmb, dig := (s.setSpace sp m).dig } := by
  cases sp <;> rfl

/-- Settles O15: inside the space both accesses answer, and outside both stop. -/
theorem memoryAccess : Obligations.MemoryAccess := by
  intro sp addr n s
  refine ⟨fun inside => ⟨⟨_, s.draws + n, memRead_inside inside, fun i b listed => ?read⟩,
    fun bytes => ⟨_, memWrite_inside inside, fun a => ?cells, s.setSpace_frame sp _,
      fun other h => State.space_setSpace_of_ne h s _⟩⟩,
    fun outside => ⟨memRead_outside outside, fun bytes => memWrite_outside outside⟩⟩
  case read =>
    rw [Fin.getElem_fin, Vector.getElem_ofFn]
    exact State.cell_of_some listed _
  case cells =>
    rw [State.space_setSpace, Memory.read_writeAll_vector]
    have range : (addr ≤ a ∧ a - addr < n) ↔ addr ≤ a ∧ a < addr + n := by omega
    simp only [range]

end Sys2Proof.Machine
end

section
/-! O16: in canonical form a memory is what it lists (20_memory R61). -/

namespace Sys2Proof.Machine

/-- A canonical memory lists each address once, so a read finds exactly the cells it holds. -/
theorem Memory.read_eq_some_iff {m : Memory} (h : m.wf) (a : Nat) (b : Byte) :
    m.read a = some b ↔ (a, b) ∈ m := by
  induction m with
  | nil => simp
  | cons c rest ih =>
    obtain ⟨k, x⟩ := c
    obtain ⟨above, hrest⟩ := List.pairwise_cons.mp h
    rw [Memory.read, List.mem_cons, ← ih hrest]
    by_cases here : k = a
    · subst here
      have notBelow : Memory.read rest k ≠ some b := fun listed =>
        Nat.lt_irrefl k (above _ ((ih hrest).mp listed))
      simp [notBelow, eq_comm]
    · simp [here, Ne.symm here]

/-- Canonical memories that read alike are equal: both are the one increasing list of the cells listed. -/
theorem Memory.ext_of_wf {m m' : Memory} (h : m.wf) (h' : m'.wf) (reads : ∀ a, m.read a = m'.read a) : m = m' := by
  have : Std.Irrefl fun x y : Host.Cell => x.1 < y.1 := ⟨fun x => Nat.lt_irrefl x.1⟩
  have : Std.Antisymm fun x y : Host.Cell => x.1 < y.1 := ⟨fun _ _ hxy hyx => (Nat.lt_asymm hxy hyx).elim⟩
  refine List.Pairwise.eq_of_mem_iff h h' fun ⟨a, b⟩ => ?_
  rw [← Memory.read_eq_some_iff h, reads, Memory.read_eq_some_iff h']

/-- Settles O16: the laws of a write, and extensionality of the canonical form. -/
theorem memoryIsCanonical : Obligations.MemoryIsCanonical :=
  ⟨fun m a b x h => ⟨Memory.wf_write h a x, m.read_write a b x⟩, fun _ _ => Memory.ext_of_wf⟩

end Sys2Proof.Machine
end

section
/-! O34: the two accesses the model stops on, a host write beyond MSG and PAD on a message MSG cannot hold (20_memory
R61; log 7). -/

namespace Sys2Proof.Machine

/-- Settles O34: with BUSY = 0 the write is not dropped, and neither access lies inside MSG. -/
theorem outsideSpaceStops : Obligations.OutsideSpaceStops := by
  refine ⟨fun s rest a b idle hturn outside => ?write, fun s tooLong => ?pad⟩
  case write =>
    rw [step_of_host hturn, hostTurn_writeMsg, State.setAgenda_busy, idle, if_neg Bool.false_ne_true,
      State.setAgenda_cfg, if_neg (Nat.not_lt.mpr outside)]
  case pad => rw [exec, execPad_eq, if_neg (Nat.not_le.mpr tooLong)]

end Sys2Proof.Machine
end

section
/-! O1 to O4: the decoder of control words, against the encoder, the operation map and the list of reserved words. A
control word is its two fields, so the facts about where the sequencer fetches an operation (Laws/Fetch) are facts about
the decoder (30_encoding R91, R92, R94, R104). -/

namespace Sys2Proof.Machine

open Laws.OperationMap (indexField_controlWord)

/-! ### A control word is its two fields -/

theorem controlWord_fields (w : BitVec 11) : controlWord (phaseField w) (indexField w) = w :=
  BitVec.extractLsb'_append_extractLsb'_eq_extractLsb' (by rfl) |>.trans BitVec.extractLsb'_eq_self

theorem eq_controlWord_iff (w : BitVec 11) (p : BitVec 4) (t : BitVec 7) :
    w = controlWord p t ↔ phaseField w = p ∧ indexField w = t := by
  constructor
  · rintro rfl
    exact ⟨phaseField_controlWord p t, indexField_controlWord p t⟩
  · rintro ⟨rfl, rfl⟩
    exact (controlWord_fields w).symm

/-- The sequencer, placed at a control word, fetches what the word decodes to. -/
theorem decodeControl_eq_fetch (w : BitVec 11) :
    decodeControl w = (State.reset.setPc (phaseField w) (indexField w) 0#55).fetch := by
  rw [State.fetch, State.controlWord, State.setPc_ph, State.setPc_t, controlWord_fields, decode]

/-! ### The operations and their codes -/

/-- The sequencer fetches an operation exactly where its control word is the code of that well-formed operation
(30_encoding R92, R104). -/
theorem State.fetch_ok_iff_encode (s : State) (i : Instr) :
    s.fetch = .ok i ↔ i.wf = true ∧ encode i = .control s.controlWord := by
  have standsAt (w : BitVec 11) : Code.control w = .control s.controlWord ↔ s.ph = phaseField w ∧ s.t = indexField w := by
    rw [Code.control.injEq, State.controlWord, eq_controlWord_iff, eq_comm, eq_comm (a := indexField w)]
  rw [State.fetch_ok_iff]
  cases i with
  | start => simp [encode]
  | sched t => simp [encode, Instr.wf, standsAt, phaseField_controlWord, indexField_controlWord, and_comm, and_assoc]
  | round t => simp [encode, Instr.wf, standsAt, phaseField_controlWord, indexField_controlWord, and_comm, and_assoc]
  | _ => rw [encode, standsAt]; exact (and_iff_right rfl).symm

/-- O1 on control words: no bit of the word is dropped, and no reserved word decodes. -/
theorem decodeControl_ok_iff (w : BitVec 11) (i : Instr) :
    decodeControl w = .ok i ↔ i.wf = true ∧ encode i = .control w := by
  rw [decodeControl_eq_fetch, State.fetch_ok_iff_encode, State.controlWord, State.setPc_ph, State.setPc_t,
    controlWord_fields]

theorem decodeCommand_ok_iff (b : BitVec 1) (i : Instr) : decodeCommand b = .ok i ↔ i = .start ∧ b = 1#1 := by
  unfold decodeCommand
  split <;> simp_all [eq_comm]

theorem encode_eq_command_iff (b : BitVec 1) (i : Instr) : encode i = .command b ↔ i = .start ∧ b = 1#1 := by
  cases i <;> simp [encode, eq_comm]

/-- Settles O1: on control words by the fetch of each operation, on commands because START alone is one. -/
theorem decodeInvertsEncode : Obligations.DecodeInvertsEncode := by
  intro c i
  cases c with
  | control w => exact decodeControl_ok_iff w i
  | command b =>
    rw [decode, decodeCommand_ok_iff, encode_eq_command_iff]
    constructor
    · rintro ⟨rfl, rfl⟩
      exact ⟨rfl, rfl, rfl⟩
    · exact And.right

/-! ### The operation map -/

/-- The mask of an indexed row keeps PH and drops T (30_encoding R92). -/
theorem phaseMask_eq_iff (w : BitVec 11) (p : BitVec 4) : w &&& 0x780#11 = controlWord p 0#7 ↔ phaseField w = p := by
  have masked : w &&& 0x780#11 = controlWord (phaseField w) 0#7 := by
    conv_lhs => rw [← controlWord_fields w, show 0x780#11 = BitVec.allOnes 4 ++ 0#7 by rfl]
    rw [controlWord, BitVec.and_append, BitVec.and_allOnes, BitVec.and_zero, controlWord]
  rw [masked, eq_controlWord_iff, phaseField_controlWord, indexField_controlWord, and_iff_left rfl]

/-- A word selects the row of an operation exactly when it is its code (30_encoding R92). -/
theorem selectsRow_iff (w : BitVec 11) (i : Instr) : selectsRow w i = true ↔ i.wf = true ∧ encode i = .control w := by
  have fullMask : w &&& 0x7FF#11 = w := BitVec.and_allOnes
  have selects (p : BitVec 4) (t : BitVec 7) :
      Code.control (controlWord p t) = .control w ↔ w &&& 0x780#11 = controlWord p 0#7 ∧ indexField w = t := by
    rw [Code.control.injEq, eq_comm, eq_controlWord_iff, phaseMask_eq_iff]
  cases i with
  | start => simp [selectsRow, rowOf, encode]
  | sched t =>
    rw [encode, selects, show controlWord 4#4 0#7 = 0x200#11 by rfl]
    simp [selectsRow, rowOf, and_left_comm, and_assoc]
  | round t =>
    rw [encode, selects, show controlWord 6#4 0#7 = 0x300#11 by rfl]
    simp [selectsRow, rowOf, and_left_comm, and_assoc]
  | _ => simp [selectsRow, rowOf, encode, Instr.wf, fullMask, eq_comm (a := w)]

/-- Settles O2: both say that the word is the code of the well-formed operation. -/
theorem wordDecodesToTheRowItSelects : Obligations.WordDecodesToTheRowItSelects := fun w i =>
  (decodeControl_ok_iff w i).trans (selectsRow_iff w i).symm

/-! ### The reserved words -/

theorem unindexed_toBool_iff (i : Instr) (p : BitVec 4) (t : BitVec 7) :
    (unindexed i p t).toBool = true ↔ t = 0#7 := by
  unfold unindexed
  split <;> simp [*, Except.toBool]

/-- The words that decode, by phase (30_encoding R92, R94). -/
theorem decodeControl_toBool_iff (w : BitVec 11) : (decodeControl w).toBool = true ↔
    (phaseField w ∈ [0#4, 1#4, 2#4, 3#4, 5#4, 7#4, 8#4, 9#4, 15#4] ∧ indexField w = 0#7) ∨
    (phaseField w = 4#4 ∧ 16 ≤ (indexField w).toNat ∧ (indexField w).toNat ≤ 79) ∨
    (phaseField w = 6#4 ∧ (indexField w).toNat ≤ 79) := by
  unfold decodeControl
  dsimp only
  repeat' split
  all_goals simp [*, Except.toBool, ↓unindexed_toBool_iff]

/-- The 153 control words of the operation map, in rising order (30_encoding R92). -/
def operationWords : List Nat :=
  [0x000, 0x080, 0x100, 0x180] ++ List.range' 0x210 64 ++ [0x280] ++ List.range' 0x300 80 ++
    [0x380, 0x400, 0x480, 0x780]

theorem operationWords_rising : operationWords.Pairwise (· < ·) := by
  simp [operationWords, List.pairwise_append, List.pairwise_lt_range' _ _, List.mem_range'_1, or_imp, forall_and]
  and_intros <;> intros <;> omega

theorem mem_operationWords_iff (w : Nat) :
    w ∈ operationWords ↔ w < 2048 ∧ (decodeControl (BitVec.ofNat 11 w)).toBool = true := by
  have phase : (phaseField (BitVec.ofNat 11 w)).toNat = w % 2048 / 128 % 16 := by
    simp [phaseField, Nat.shiftRight_eq_div_pow]
  have index : (indexField (BitVec.ofNat 11 w)).toNat = w % 2048 % 128 := by simp [indexField]
  simp only [decodeControl_toBool_iff, operationWords, List.mem_append, List.mem_cons, List.mem_range'_1,
    List.not_mem_nil, or_false, BitVec.toNat_eq, phase, index, BitVec.toNat_ofNat]
  omega

/-- The listed words are the words that decode, each once and in the same order. -/
theorem filter_decodes : (List.range 2048).filter (fun w => (decodeControl (BitVec.ofNat 11 w)).toBool) =
    operationWords := by
  refine List.Pairwise.eq_of_mem_iff (List.Pairwise.filter _ List.pairwise_lt_range) operationWords_rising fun w => ?_
  rw [List.mem_filter, List.mem_range, mem_operationWords_iff]

/-- Settles O3: the words that decode are listed, and by phase the others are those of R94. -/
theorem reservedWordsAreTheListedOnes : Obligations.ReservedWordsAreTheListedOnes := by
  refine ⟨?count, fun ph t => ?reserved⟩
  case count =>
    rw [List.countP_eq_length_filter, filter_decodes]
    simp [operationWords]
  case reserved =>
    rw [← Bool.not_eq_true, decodeControl_toBool_iff, phaseField_controlWord, indexField_controlWord]
    simp only [List.mem_cons, List.not_mem_nil, or_false, BitVec.toNat_eq, BitVec.toNat_ofNat, ne_eq]
    omega

/-- Settles O4: ten closed words, each run through the decoder. -/
theorem listedControlWordsDecode : Obligations.ListedControlWordsDecode := by
  unfold Obligations.ListedControlWordsDecode
  decide

end Sys2Proof.Machine
end

section
/-! O5 to O7: a turn of the sequencer is exec of the operation fetched, and stops on a reserved control word (30_encoding
R90, R94; log 6). -/

namespace Sys2Proof.Machine

theorem coreTurn_of_ok {s : State} {i : Instr} (h : s.fetch = .ok i) : coreTurn s = exec i s := by simp [coreTurn, h]

theorem coreTurn_of_error {s : State} {e : DecodeError} (h : s.fetch = .error e) :
    coreTurn s = .fault (.reservedControlWord e) := by simp [coreTurn, h]

/-- Settles O5: the turn is the sequencer's on either form of the agenda, and of the writes to CTRL only START decodes. -/
theorem stepRunsTheDecodedInstruction : Obligations.StepRunsTheDecodedInstruction := by
  refine fun s i => ⟨fun hturn hf => ?idle, fun rest hturn hf => ?core, fun b rest hturn hd => ?command⟩
  case idle => exact ⟨((s.fetch_ok_iff_encode i).mp hf).1, (step_of_no_turn hturn).trans (coreTurn_of_ok hf)⟩
  case core => exact ⟨((s.fetch_ok_iff_encode i).mp hf).1, (step_of_core hturn).trans (coreTurn_of_ok hf)⟩
  case command =>
    obtain ⟨rfl, rfl⟩ := (decodeCommand_ok_iff b i).mp hd
    exact ⟨rfl, (step_of_host hturn).trans (hostTurn_start _)⟩

/-- Settles O6: the agenda has no part in what the sequencer fetches. -/
theorem reservedControlWordIsStuck : Obligations.ReservedControlWordIsStuck := by
  rintro s e hf (hturn | ⟨rest, hturn⟩)
  · exact (step_of_no_turn hturn).trans (coreTurn_of_error hf)
  · exact (step_of_core hturn).trans (coreTurn_of_error hf)

/-- Settles O7: SCHED and ROUND complete on the indices of their control words alone. -/
theorem indexOutOfRangeIsStuck : Obligations.IndexOutOfRangeIsStuck := by
  refine fun s t => ⟨fun outside => ?sched, fun outside => ?round⟩
  case sched => rw [exec, execSched_eq, dif_neg (by omega)]
  case round => rw [exec, execRound_eq, dif_neg (by omega)]

end Sys2Proof.Machine
end

section
/-! O19: the padded message byte by byte (30_encoding R99). -/

namespace Sys2Proof.Machine

/-- Settles O19: the bytes of the padded message, the length word as its eight big-endian bytes. -/
theorem paddedMessageFormat : Obligations.PaddedMessageFormat := by
  refine fun n m => ⟨rfl, paddedLength_eq n, fun j hj => ?_⟩
  simp only [getElem_padMessage, getElem_tobe64]

end Sys2Proof.Machine
end

section
/-! O8 to O12: the combinational functions on values and bit by bit (40_primitives R120 to R129, R132). -/

namespace Sys2Proof.Machine

@[simp] theorem toNat_add64 (x y : Word) : (add64 x y).toNat = (x.toNat + y.toNat) % 2 ^ 64 := BitVec.toNat_add x y

/-- Settles O8: add64 is the addition of bit vectors. -/
theorem addWrapsModulo64 : Obligations.AddWrapsModulo64 := toNat_add64

/-! ### Rotation -/

theorem rotr_eq_rotateRight (x : Word) {b : Nat} (hb : b < 64) : rotr x b = x.rotateRight b := by
  rw [BitVec.rotateRight_def, Nat.mod_eq_of_lt hb, rotr]

theorem getLsbD_rotr (x : Word) {b i : Nat} (hb : b < 64) (hi : i < 64) :
    (rotr x b).getLsbD i = x.getLsbD ((i + b) % 64) := by
  rw [rotr_eq_rotateRight x hb, BitVec.getLsbD_rotateRight, Nat.mod_eq_of_lt hb]
  by_cases inside : i < 64 - b
  · have wrapped : (i + b) % 64 = b + i := by omega
    simp [inside, wrapped]
  · have wrapped : (i + b) % 64 = i - (64 - b) := by omega
    simp [inside, hi, wrapped]

/-- The two rotations move a bit by 64 places in all. -/
theorem rotr_rotr_sub (x : Word) {b : Nat} (hpos : 0 < b) (hb : b < 64) : rotr (rotr x b) (64 - b) = x := by
  refine BitVec.eq_of_getLsbD_eq fun i hi => ?_
  have turn : ((i + (64 - b)) % 64 + b) % 64 = i := by omega
  rw [getLsbD_rotr _ (by omega) hi, getLsbD_rotr x hb (Nat.mod_lt _ (by decide)), turn]

/-- Settles O9: the bits of a rotation, and of two that make a full turn. -/
theorem rotateMovesBits : Obligations.RotateMovesBits := fun x _ hpos hle =>
  ⟨fun _ hi => getLsbD_rotr x (Nat.lt_succ_of_le hle) hi, rotr_rotr_sub x hpos (Nat.lt_succ_of_le hle)⟩

/-! ### Shift -/

@[simp] theorem toNat_shr (x : Word) (b : Nat) : (shr x b).toNat = x.toNat / 2 ^ b := by
  rw [shr, BitVec.toNat_ushiftRight, Nat.shiftRight_eq_div_pow]

theorem getLsbD_shr (x : Word) (b i : Nat) :
    (shr x b).getLsbD i = (decide (i + b < 64) && x.getLsbD (i + b)) := by
  rw [shr, BitVec.getLsbD_ushiftRight, Nat.add_comm b]
  by_cases inside : i + b < 64
  · simp [inside]
  · simp [inside, BitVec.getLsbD_of_ge x (i + b) (by omega)]

/-- Settles O10: the quotient and the bits of a shift, for every amount. -/
theorem shiftDividesByPower : Obligations.ShiftDividesByPower := fun x b _ _ =>
  ⟨toNat_shr x b, fun i _ => getLsbD_shr x b i⟩

/-! ### Functions built from rotations, shifts and bitwise operations -/

/-- Settles O11: the bits of the three terms of each function, at the amounts of R132. -/
theorem sigmaBits : Obligations.SigmaBits := by
  intro x i hi
  simp (disch := omega) only [smallSigma0, smallSigma1, bigSigma0, bigSigma1, BitVec.getLsbD_xor, getLsbD_rotr,
    getLsbD_shr, and_self]

theorem getLsbD_ch (x y z : Word) {i : Nat} (hi : i < 64) :
    (ch x y z).getLsbD i = if x.getLsbD i then y.getLsbD i else z.getLsbD i := by
  simp only [ch, BitVec.getLsbD_xor, BitVec.getLsbD_and, BitVec.getLsbD_not, hi]
  cases x.getLsbD i <;> simp

theorem getLsbD_maj (x y z : Word) (i : Nat) :
    (maj x y z).getLsbD i = decide (2 ≤ (x.getLsbD i).toNat + (y.getLsbD i).toNat + (z.getLsbD i).toNat) := by
  simp only [maj, BitVec.getLsbD_xor, BitVec.getLsbD_and]
  generalize x.getLsbD i = p, y.getLsbD i = q, z.getLsbD i = r
  revert p q r
  decide

/-- Settles O12: the choice by the bit of the first argument, the majority by the table of the three bits. -/
theorem chooseAndMajorityBits : Obligations.ChooseAndMajorityBits := fun x y z i hi =>
  ⟨getLsbD_ch x y z hi, getLsbD_maj x y z i⟩

end Sys2Proof.Machine
end

section
/-! O17 and O18: the number of zero bytes, the padded length and the number of blocks in closed form (41_padder R141,
R143). -/

namespace Sys2Proof.Machine

theorem coe_padZeros (n : Nat) : (padZeros n : Int) = (111 - n) % 128 := Int.toNat_of_nonneg (by omega)

theorem blockCount_mono {n n' : Nat} (h : n ≤ n') : blockCount n ≤ blockCount n' := by
  rw [blockCount_eq, blockCount_eq]
  exact Nat.div_le_div_right (Nat.add_le_add_right h 144)

theorem add_seventeen_le_paddedLength (n : Nat) : n + 17 ≤ paddedLength n := by
  unfold paddedLength
  omega

/-- P(n) is below every other multiple of 128 with room for the message, the marker and the length (R143). -/
theorem paddedLength_le {n p : Nat} (multiple : p % 128 = 0) (room : n + 17 ≤ p) : paddedLength n ≤ p := by
  rw [paddedLength_eq, blockCount_eq]
  omega

/-- Settles O17: every clause is linear arithmetic about the residue of 111 − n. -/
theorem zeroBytesAreMinimal : Obligations.ZeroBytesAreMinimal := by
  intro n
  have residue := coe_padZeros n
  refine ⟨residue, ?atMost127, ?multiple, fun z hz => ?least, ?bits, ?bitLength, ?atMost1023⟩
  all_goals omega

/-- Settles O18: the closed form of N decides every bound on it, and P is 128 N. -/
theorem paddedLengthClosedForm : Obligations.PaddedLengthClosedForm := by
  intro n
  refine ⟨rfl, paddedLength_eq n, blockCount_eq n, ?byRemainder, ?positive, add_seventeen_le_paddedLength n,
    fun _ => paddedLength_le, fun n' hle => ⟨?monotone, blockCount_mono hle⟩, fun bounded => ?within55Bits⟩
  case byRemainder =>
    rw [blockCount_eq]
    split <;> omega
  case positive =>
    rw [blockCount_eq]
    omega
  case monotone =>
    rw [paddedLength_eq, paddedLength_eq]
    exact Nat.mul_le_mul_left 128 (blockCount_mono hle)
  case within55Bits =>
    rw [blockCount_eq]
    omega

end Sys2Proof.Machine
end

section
/-! O20: PAD on a message MSG holds (41_padder R140). -/

namespace Sys2Proof.Machine

/-- The cells read off MSG are the message it holds, whatever the draws. -/
theorem State.HoldsMessage.ofFn_cell {n : Nat} {s : State} {m : Vector Byte n} (holds : s.HoldsMessage m) (k : Nat) :
    (Vector.ofFn fun i : Fin n => s.cell .msg (0 + i) (k + i)) = m := by
  ext i hi
  have listed : (s.space .msg).read (0 + i) = some m[i] := by
    rw [Nat.zero_add]
    exact holds.2 ⟨i, hi⟩
  rw [Vector.getElem_ofFn, State.cell_of_some listed]

/-- Settles O20: PAD writes the padding of the message it reads, which is the message held. -/
theorem padWritesThePaddedMessage : Obligations.PadWritesThePaddedMessage := by
  intro s n m holds fits
  obtain rfl := holds.1
  have padded := exec_pad_result fits
  rw [holds.ofFn_cell] at padded
  exact ⟨_, _, padded, Memory.read_writeAll_padMessage s.pmb m⟩

end Sys2Proof.Machine
end

section
/-! O21 and O22: PARSE on a block that PMB holds, SCHED on operands that are words (42_scheduler R150, R151). -/

namespace Sys2Proof.Machine

/-- The cells PARSE reads off PMB are the block it holds, whatever the draws. -/
theorem State.ofFn_cell_of_block {s : State} {b : Vector Byte 128}
    (held : ∀ k : Fin 128, s.pmb.read (128 * s.blk.toNat + k) = some b[k]) (k : Nat) :
    (Vector.ofFn fun i : Fin 128 => s.cell .pmb (s.blockAddr + i) (k + i)) = b := by
  ext i hi
  have listed : (s.space .pmb).read (s.blockAddr + i) = some b[i] := held ⟨i, hi⟩
  rw [Vector.getElem_ofFn, State.cell_of_some listed]

/-- PARSE of a block that PMB holds (R150). -/
theorem exec_parse_of_block {s : State} {b : Vector Byte 128} (hblk : s.blk.toNat < blockCount s.n)
    (hfit : s.n ≤ s.cfg.maxMsgBytes.toNat)
    (held : ∀ k : Fin 128, s.pmb.read (128 * s.blk.toNat + k) = some b[k]) :
    exec .parse s = .next { s with w := parseInto s.w b, ph := 4#4, t := 16#7, draws := s.draws + 128 } := by
  rw [exec_parse_result hblk hfit, State.ofFn_cell_of_block held]

/-- The bytes of a word of the block, the most significant first (30_encoding R98). -/
theorem blockWord_eq (b : Vector Byte 128) (j : Fin 16) : blockWord b j =
    be64 #v[b[8 * j.val], b[8 * j.val + 1], b[8 * j.val + 2], b[8 * j.val + 3], b[8 * j.val + 4], b[8 * j.val + 5],
      b[8 * j.val + 6], b[8 * j.val + 7]] := rfl

/-- Settles O21: the block read is the block held, and its words are big-endian. -/
theorem parseReadsBigEndianWords : Obligations.ParseReadsBigEndianWords := by
  refine fun s b hblk hfit held => ⟨_, _, exec_parse_of_block hblk hfit held, fun i => ?_⟩
  simp only [getElem_parseInto, blockWord_eq]

/-- Settles O22: a read of a register that holds a word is that word. -/
theorem schedAppliesTheRecurrence : Obligations.SchedAppliesTheRecurrence := by
  intro s t h16 h79 w16 w15 w7 w2 e16 e15 e7 e2
  have result := exec_sched_result s t h16 h79
  rw [e16, e15, e7, e2] at result
  exact ⟨_, result⟩

end Sys2Proof.Machine
end

section
/-! O52: expand(block) is the only sequence with the block's words and the recurrence (42_scheduler R152). -/

namespace Sys2Proof.Machine

theorem getElem_schedule_succ (b : Vector Byte 128) (k i : Nat) (hi : i < 16 + k) :
    (schedule b (k + 1))[i] = (schedule b k)[i] :=
  Vector.getElem_push_lt hi

/-- Each longer schedule begins with the shorter ones. -/
theorem getElem_schedule_of_le (b : Vector Byte 128) {k k' : Nat} (hle : k ≤ k') (i : Nat) (hi : i < 16 + k) :
    (schedule b k')[i] = (schedule b k)[i] := by
  induction k', hle using Nat.le_induction with
  | base => rfl
  | succ k' hle ih => rw [getElem_schedule_succ b k' i (by omega), ih]

theorem getElem_expand (b : Vector Byte 128) {k : Nat} (hk : k ≤ 64) (i : Nat) (hi : i < 16 + k) :
    (expand b)[i] = (schedule b k)[i] :=
  getElem_schedule_of_le b hk i hi

/-- The first sixteen words of the schedule are those of the block. -/
theorem expand_block (b : Vector Byte 128) (j : Fin 16) : (expand b)[j.val] = blockWord b j := by
  rw [getElem_expand b (Nat.zero_le 64) j j.isLt]
  exact Vector.getElem_ofFn j.isLt

/-- Every other word of the schedule is the recurrence of four before it (R151). -/
theorem expand_recurrence (b : Vector Byte 128) (t : Nat) (h16 : 16 ≤ t) (h79 : t ≤ 79) :
    (expand b)[t] = (expand b)[t - 16] + smallSigma0 (expand b)[t - 15] + (expand b)[t - 7] +
      smallSigma1 (expand b)[t - 2] := by
  obtain ⟨k, rfl⟩ := Nat.exists_eq_add_of_le h16
  have pushed : (schedule b (k + 1))[16 + k] = scheduleWord (schedule b k)[k] (schedule b k)[k + 1]
      (schedule b k)[k + 9] (schedule b k)[k + 14] := Vector.getElem_push_eq
  have operand (i : Nat) (hi : i < 16 + k) : (expand b)[i] = (schedule b k)[i] := getElem_expand b (by omega) i hi
  rw [getElem_expand b (k := k + 1) (by omega) _ (by omega), pushed, operand _ (by omega), operand _ (by omega),
    operand _ (by omega), operand _ (by omega)]
  simp only [scheduleWord, add64, show 16 + k - 16 = k by omega, show 16 + k - 15 = k + 1 by omega,
    show 16 + k - 7 = k + 9 by omega, show 16 + k - 2 = k + 14 by omega]

/-- The block's words and the recurrence leave no choice of any word. -/
theorem eq_expand {b : Vector Byte 128} {w : Vector Word 80} (words : ∀ j : Fin 16, w[j.val] = blockWord b j)
    (recurrence : ∀ (t : Nat) (_ : 16 ≤ t) (_ : t ≤ 79),
      w[t] = w[t - 16] + smallSigma0 w[t - 15] + w[t - 7] + smallSigma1 w[t - 2]) : w = expand b := by
  refine Vector.ext fun i hi => ?_
  induction i using Nat.strong_induction_on with
  | _ i ih =>
    by_cases inBlock : i < 16
    · exact (words ⟨i, inBlock⟩).trans (expand_block b ⟨i, inBlock⟩).symm
    · rw [recurrence i (by omega) (by omega), expand_recurrence b i (by omega) (by omega), ih (i - 16) (by omega),
        ih (i - 15) (by omega), ih (i - 7) (by omega), ih (i - 2) (by omega)]

/-- Settles O52: expand has both properties, and they leave no choice. -/
theorem expandIsTheRecurrence : Obligations.ExpandIsTheRecurrence := by
  refine fun b w => ⟨?_, fun ⟨words, recurrence⟩ => eq_expand words recurrence⟩
  rintro rfl
  exact ⟨expand_block b, expand_recurrence b⟩

end Sys2Proof.Machine
end

section
/-! O53: PARSE and the 64 SCHEDs, by the words of expand(block) that W holds so far (42_scheduler R152). -/

namespace Sys2Proof.Machine

theorem steps_succ_of_next {s s₁ : State} (h : step s = .next s₁) (k : Nat) : steps (k + 1) s = steps k s₁ := by
  simp [steps, h]

/-- The registers below `k` hold the words of `x`. -/
def HoldsTo {n : Nat} (f : Vector Reg n) (x : Vector Word n) (k : Nat) : Prop :=
  ∀ (i : Nat) (_ : i < n), i < k → f[i] = .word x[i]

theorem HoldsTo.eq_wordFile {n : Nat} {f : Vector Reg n} {x : Vector Word n} (h : HoldsTo f x n) : f = wordFile x := by
  ext i hi
  rw [h i hi hi, getElem_wordFile]

theorem HoldsTo.set {n k : Nat} {f : Vector Reg n} {x : Vector Word n} (h : HoldsTo f x k) (hk : k < n) :
    HoldsTo (f.set k (.word x[k])) x (k + 1) := by
  intro i hi hik
  rw [Vector.getElem_set]
  split
  · next same => subst same; rfl
  · exact h i hi (by omega)

theorem parseInto_holdsTo (w : Vector Reg 80) (b : Vector Byte 128) : HoldsTo (parseInto w b) (expand b) 16 := by
  intro i hi h16
  exact (getElem_parseInto w b ⟨i, hi⟩).trans ((dif_pos h16).trans (congrArg Reg.word (expand_block b ⟨i, h16⟩).symm))

/-- SCHED t on the first t words of expand(block) writes the next one. -/
theorem step_sched_of_holdsTo {s : State} {b : Vector Byte 128} (hph : s.ph = 4#4) (hturn : s.agenda = [])
    (h16 : 16 ≤ s.t.toNat) (h79 : s.t.toNat ≤ 79) (words : HoldsTo s.w (expand b) s.t.toNat) :
    step s = .next { s with
      w := s.w.set s.t.toNat (.word (expand b)[s.t.toNat])
      ph := if s.t.toNat < 79 then 4#4 else 5#4
      t := if s.t.toNat < 79 then s.t + 1#7 else 0#7
      draws := s.draws + 4 } := by
  have fetched : s.fetch = .ok (.sched s.t) := (State.fetch_ok_iff s _).mpr ⟨hph, rfl, h16, h79⟩
  rw [step_of_no_turn hturn, coreTurn_of_ok fetched, exec_sched_result s s.t h16 h79, words (s.t.toNat - 16) _ (by omega),
    words (s.t.toNat - 15) _ (by omega), words (s.t.toNat - 7) _ (by omega), words (s.t.toNat - 2) _ (by omega),
    expand_recurrence b s.t.toNat h16 h79]
  simp only [Reg.read_word]

/-- The SCHEDs that remain, `j` more after this one, complete the schedule. -/
theorem steps_sched {s : State} {b : Vector Byte 128} (j : Nat) (hph : s.ph = 4#4) (hturn : s.agenda = [])
    (h16 : 16 ≤ s.t.toNat) (hleft : s.t.toNat + j = 79) (words : HoldsTo s.w (expand b) s.t.toNat) :
    ∃ k, steps (j + 1) s = .next { s with w := wordFile (expand b), ph := 5#4, t := 0#7, draws := k } := by
  induction j generalizing s with
  | zero =>
    have taken := step_sched_of_holdsTo hph hturn h16 hleft.le words
    have written := words.set (show s.t.toNat < 80 by omega)
    rw [show s.t.toNat + 1 = 80 by omega] at written
    rw [written.eq_wordFile, if_neg (by omega), if_neg (by omega)] at taken
    exact ⟨_, steps_succ_of_next taken 0⟩
  | succ j ih =>
    have taken := step_sched_of_holdsTo hph hturn h16 (by omega) words
    have written := words.set (show s.t.toNat < 80 by omega)
    have next : s.t.toNat + 1 = (s.t + 1#7).toNat := by
      rw [BitVec.toNat_add, BitVec.toNat_ofNat]
      omega
    rw [if_pos (by omega), if_pos (by omega)] at taken
    rw [next] at written
    rw [steps_succ_of_next taken]
    exact ih rfl hturn (next ▸ by omega) (next ▸ by omega) written

/-- Settles O53: PARSE leaves the first sixteen words, and the 64 SCHEDs the others. -/
theorem expandComposite : Obligations.ExpandComposite := by
  intro s b hph ht hturn hblk hfit held
  have fetched : s.fetch = .ok .parse := (State.fetch_ok_iff s _).mpr ⟨hph, ht⟩
  have parsed := (step_of_no_turn hturn).trans ((coreTurn_of_ok fetched).trans (exec_parse_of_block hblk hfit held))
  rw [steps_succ_of_next parsed]
  exact steps_sched 63 rfl hturn (Nat.le_refl 16) rfl (parseInto_holdsTo s.w b)

end Sys2Proof.Machine
end

section
/-! O23 to O25: LOADV, ROUND t and FOLD on operands that are words (43_compressor R160 to R162). -/

namespace Sys2Proof.Machine

theorem wordFile_readFile_of_specified {n : Nat} {f : Vector Reg n} (h : ∀ i : Fin n, f[i].Specified) (k : Nat) :
    wordFile (readFile f k) = f := by
  ext i hi
  rw [getElem_wordFile, getElem_readFile]
  exact (Reg.eq_word_read (h ⟨i, hi⟩) _).symm

/-- LOADV of a hash state that holds words (R160). -/
theorem exec_loadv_of_specified {s : State} (h : ∀ i : Fin 8, s.h[i].Specified) :
    exec .loadv s = .next { s with v := s.h, ph := 6#4, t := 0#7, draws := s.draws + 8 } := by
  rw [exec_loadv_result, ← wordFile_readFile, wordFile_readFile_of_specified h]

/-- ROUND t on working variables that hold the words `x` (R161). -/
theorem exec_round_of_words {s : State} {t : BitVec 7} {x : Vector Word 8} {w : Word} (h79 : t.toNat ≤ 79)
    (hv : s.v = wordFile x) (hw : s.w[t.toNat] = .word w) :
    exec (.round t) s = .next { s with
      v := wordFile (roundStep x roundConstants[t.toNat] w)
      ph := if t.toNat < 79 then 6#4 else 7#4
      t := if t.toNat < 79 then t + 1#7 else 0#7
      draws := s.draws + 9 } := by
  rw [exec_round_result s t h79, hv, hw, readFile_wordFile, Reg.read_word]

/-- FOLD of the words `y` into the words `x` (R162). -/
theorem exec_fold_of_words {s : State} {x y : Vector Word 8} (hh : s.h = wordFile x) (hv : s.v = wordFile y) :
    exec .fold s = .next { s with
      h := wordFile (foldWords x y)
      ph := if s.blk.toNat + 1 < blockCount s.n then 3#4 else 8#4
      t := 0#7
      blk := if s.blk.toNat + 1 < blockCount s.n then s.blk + 1#55 else s.blk
      draws := s.draws + 16 } := by
  have result := execFold_eq s
  rw [hh, hv, readFile_wordFile, readFile_wordFile] at result
  exact result

/-- Settles O23: the words read off H are those it holds. -/
theorem loadvCopiesTheHashState : Obligations.LoadvCopiesTheHashState :=
  fun _ specified => ⟨_, exec_loadv_of_specified specified⟩

/-- Settles O24: the eight registers hold eight words, and roundStep writes the sums of R161. -/
theorem roundUpdatesTheWorkingVariables : Obligations.RoundUpdatesTheWorkingVariables := by
  intro s t h79 a b c d e f g h w hv hw
  exact ⟨_, exec_round_of_words (x := #v[a, b, c, d, e, f, g, h]) h79 hv hw⟩

/-- Settles O25: FOLD's result, read register by register. -/
theorem foldAddsIntoTheHashState : Obligations.FoldAddsIntoTheHashState := by
  intro s x y hh hv
  have hash : s.h = wordFile x := HoldsTo.eq_wordFile fun i hi _ => hh ⟨i, hi⟩
  have working : s.v = wordFile y := HoldsTo.eq_wordFile fun i hi _ => hv ⟨i, hi⟩
  refine ⟨_, _, exec_fold_of_words hash working, fun i => ?_⟩
  simp [wordFile_foldWords]

end Sys2Proof.Machine
end

section
/-! O54: LOADV, the 80 ROUNDs and FOLD, by the rounds that a..h have been through so far (43_compressor R163). -/

namespace Sys2Proof.Machine

theorem steps_add_of_next {j : Nat} {s s₁ : State} (h : steps j s = .next s₁) (k : Nat) :
    steps (j + k) s = steps k s₁ := by
  induction j generalizing s with
  | zero =>
    obtain rfl : s = s₁ := Host.Outcome.next.inj h
    rw [Nat.zero_add]
  | succ j ih =>
    rw [Nat.add_right_comm]
    simp only [steps] at h ⊢
    cases taken : step s with
    | next s' =>
      rw [taken] at h
      exact ih h
    | fault r => simp [taken] at h
    | refused r => simp [taken] at h

/-- With no host turn a step is exec of the operation fetched. -/
theorem step_of_fetch {s : State} {i : Instr} (hturn : s.agenda = []) (hf : s.fetch = .ok i) : step s = exec i s :=
  (step_of_no_turn hturn).trans (coreTurn_of_ok hf)

theorem step_loadv_of_words {s : State} {x : Vector Word 8} (hph : s.ph = 5#4) (ht : s.t = 0#7) (hturn : s.agenda = [])
    (hh : s.h = wordFile x) :
    step s = .next { s with v := s.h, ph := 6#4, t := 0#7, draws := s.draws + 8 } :=
  (step_of_fetch hturn ((State.fetch_ok_iff s .loadv).mpr ⟨hph, ht⟩)).trans
    (exec_loadv_of_specified (specifiedTo_all.mp (hh ▸ specifiedTo_wordFile x)))

theorem step_fold_of_words {s : State} {x y : Vector Word 8} (hph : s.ph = 7#4) (ht : s.t = 0#7)
    (hturn : s.agenda = []) (hh : s.h = wordFile x) (hv : s.v = wordFile y) :
    step s = .next { s with
      h := wordFile (foldWords x y)
      ph := if s.blk.toNat + 1 < blockCount s.n then 3#4 else 8#4
      t := 0#7
      blk := if s.blk.toNat + 1 < blockCount s.n then s.blk + 1#55 else s.blk
      draws := s.draws + 16 } :=
  (step_of_fetch hturn ((State.fetch_ok_iff s .fold).mpr ⟨hph, ht⟩)).trans (exec_fold_of_words hh hv)

/-- ROUND k on working variables that have been through the first k rounds performs the next one. -/
theorem step_round_of_rounds {s : State} {x : Vector Word 8} {y : Vector Word 80} {k : Nat} (hk : k < 80)
    (hph : s.ph = 6#4) (hturn : s.agenda = []) (ht : s.t.toNat = k) (hw : s.w = wordFile y)
    (hv : s.v = wordFile (rounds x y k hk.le)) :
    step s = .next { s with
      v := wordFile (rounds x y (k + 1) hk)
      ph := if k < 79 then 6#4 else 7#4
      t := if k < 79 then s.t + 1#7 else 0#7
      draws := s.draws + 9 } := by
  subst ht
  have h79 : s.t.toNat ≤ 79 := Nat.le_of_lt_succ hk
  have operand : s.w[s.t.toNat] = .word y[s.t.toNat] := by simp only [hw, getElem_wordFile]
  rw [step_of_fetch hturn ((State.fetch_ok_iff s (.round s.t)).mpr ⟨hph, rfl, h79⟩),
    exec_round_of_words h79 hv operand, rounds]

/-- The ROUNDs that remain, `j` more after this one, complete the 80. -/
theorem steps_round {s : State} {x : Vector Word 8} {y : Vector Word 80} (j : Nat) {k : Nat} (hleft : k + j = 79)
    (hph : s.ph = 6#4) (hturn : s.agenda = []) (ht : s.t.toNat = k) (hw : s.w = wordFile y)
    (hv : s.v = wordFile (rounds x y k (by omega))) :
    ∃ n, steps (j + 1) s = .next { s with
      v := wordFile (rounds x y 80 (Nat.le_refl 80)), ph := 7#4, t := 0#7, draws := n } := by
  induction j generalizing s k with
  | zero =>
    obtain rfl : k = 79 := hleft
    exact ⟨_, steps_succ_of_next (step_round_of_rounds (by omega) hph hturn ht hw hv) 0⟩
  | succ j ih =>
    have taken := step_round_of_rounds (by omega) hph hturn ht hw hv
    rw [if_pos (by omega), if_pos (by omega)] at taken
    have next : (s.t + 1#7).toNat = k + 1 := by
      rw [BitVec.toNat_add, BitVec.toNat_ofNat]
      omega
    rw [steps_succ_of_next taken]
    exact ih (k := k + 1) (by omega) rfl hturn next hw rfl

/-- Settles O54: LOADV starts the rounds at H, the 80 ROUNDs leave them in a..h, and FOLD adds them into H. -/
theorem compressComposite : Obligations.CompressComposite := by
  intro s x y hph ht hturn hh hw
  have loaded := step_loadv_of_words hph ht hturn hh
  obtain ⟨n, rounded⟩ := steps_round (s := { s with v := s.h, ph := 6#4, t := 0#7, draws := s.draws + 8 }) (x := x)
    (k := 0) 79 rfl rfl hturn rfl hw hh
  have folded := step_fold_of_words (s := { s with
    v := wordFile (rounds x y 80 (Nat.le_refl 80)), ph := 7#4, t := 0#7, draws := n }) rfl rfl hturn hh rfl
  exact ⟨_, _, (steps_succ_of_next loaded 81).trans ((steps_add_of_next rounded 1).trans
    (steps_succ_of_next folded 0))⟩

end Sys2Proof.Machine
end

section
/-! O26: SERIALIZE of a hash state that holds words (44_serializer R170). -/

namespace Sys2Proof.Machine

/-- SERIALIZE of the words `x` (R170). -/
theorem exec_serialize_of_words {s : State} {x : Vector Word 8} (hh : s.h = wordFile x) :
    exec .serialize s = .next { s with
      dig := s.dig.writeAll 0 (serializeWords x).toList
      ph := 9#4
      t := 0#7
      draws := s.draws + 8 } := by
  rw [exec_serialize_result, hh, readFile_wordFile]

/-- Settles O26: the 64 bytes written at 0 are those of the words that H holds. -/
theorem serializeWritesTheDigest : Obligations.SerializeWritesTheDigest := by
  intro s x hh
  have hash : s.h = wordFile x := HoldsTo.eq_wordFile fun i hi _ => hh ⟨i, hi⟩
  exact ⟨_, _, exec_serialize_of_words hash, Memory.read_writeAll_serializeWords s.dig x⟩

end Sys2Proof.Machine
end

section
/-! O42: in DONE the sequencer changes nothing, and while BUSY = 0 the host reaches H, DIG and the phase by reset and
START alone (44_serializer R171, 45_sequencer R176, 10_state R43). -/

namespace Sys2Proof.Machine

/-- While BUSY = 0 a host event other than reset and START writes MSG, MLEN and the model's own record at most. -/
theorem hostTurn_frame_of_not_busy {e : HostEvent} {s s' : State} (notBusy : s.busy = false) (notReset : e ≠ .reset)
    (notStart : e ≠ .writeCtrl 1#1) (h : hostTurn e s = .next s') :
    ∃ msg mlen draws replies, s' = { s with msg := msg, mlen := mlen, draws := draws, replies := replies } := by
  cases e with
  | reset => exact absurd rfl notReset
  | writeCtrl b =>
    obtain rfl : b = 0#1 := (BitVec.eq_zero_or_eq_one b).resolve_right (fun one => notStart (one ▸ rfl))
    cases h; exact ⟨_, _, _, _, rfl⟩
  | writeMsg a b =>
    rw [hostTurn_writeMsg, notBusy, if_neg Bool.false_ne_true] at h
    split at h
    · cases h; exact ⟨_, _, _, _, rfl⟩
    · cases h
  | writeMlen n =>
    rw [hostTurn_writeMlen, notBusy, if_neg Bool.false_ne_true] at h
    cases h; exact ⟨_, _, _, _, rfl⟩
  | writeStatus v => cases h; exact ⟨_, _, _, _, rfl⟩
  | readMlen => cases h; exact ⟨_, _, _, _, rfl⟩
  | readStatus => cases h; exact ⟨_, _, _, _, rfl⟩
  | readDig a => cases h; exact ⟨_, _, _, _, rfl⟩

theorem coreTurn_of_done {s : State} (hph : s.ph = 9#4) (ht : s.t = 0#7) : coreTurn s = .next s :=
  coreTurn_of_ok ((State.fetch_ok_iff s .done).mpr ⟨hph, ht⟩)

/-- Where the sequencer waits, an edge is its host event. -/
theorem edgeTurn_of_wait {s : State} (wait : coreTurn s = .next s) (e : HostEvent) : edgeTurn e s = hostTurn e s := by
  simp [edgeTurn, wait]

theorem hostTurn_keeps_digest_of_done {e : HostEvent} {s s' : State} (hph : s.ph = 9#4) (notReset : e ≠ .reset)
    (notStart : e ≠ .writeCtrl 1#1) (h : hostTurn e s = .next s') : s'.ph = 9#4 ∧ s'.dig = s.dig ∧ s'.h = s.h := by
  have notBusy : s.busy = false := by simp [State.busy, hph]
  obtain ⟨_, _, _, _, rfl⟩ := hostTurn_frame_of_not_busy notBusy notReset notStart h
  exact ⟨hph, rfl, rfl⟩

/-- Settles O42: the sequencer's turn changes nothing, and a host event, alone or on an edge, keeps the three fields. -/
theorem digestIsImmutableInDone : Obligations.DigestIsImmutableInDone := by
  intro s s' hph ht allowed h
  have wait (l : List Turn) : coreTurn (s.setAgenda l) = .next (s.setAgenda l) := coreTurn_of_done hph ht
  match hturn : s.agenda with
  | [] =>
    rw [step_of_no_turn hturn, coreTurn_of_done hph ht] at h
    cases h; exact ⟨hph, rfl, rfl⟩
  | .core :: rest =>
    rw [step_of_core hturn, wait] at h
    cases h; exact ⟨hph, rfl, rfl⟩
  | .host e :: rest =>
    obtain ⟨notReset, -, notStart, -⟩ := allowed rest
    rw [step_of_host hturn] at h
    exact hostTurn_keeps_digest_of_done (s := s.setAgenda rest) hph (fun he => notReset (he ▸ hturn))
      (fun he => notStart (he ▸ hturn)) h
  | .edge e :: rest =>
    obtain ⟨-, notReset, -, notStart⟩ := allowed rest
    rw [step_of_edge hturn, edgeTurn_of_wait (wait rest)] at h
    exact hostTurn_keeps_digest_of_done (s := s.setAgenda rest) hph (fun he => notReset (he ▸ hturn))
      (fun he => notStart (he ▸ hturn)) h

end Sys2Proof.Machine
end

section
/-! Where the sequencer can stand, and where each operation takes it (45_sequencer R177): it waits, or a call runs on a
message MSG can hold with BLK below N. From there every operation answers a next state whose control part is one function
of the control part before. -/

namespace Sys2Proof.Machine

/-! ### Waiting, or in a call -/

/-- The sequencer stands in a wait state (45_sequencer R176, 60_exceptions R209). -/
def State.Waits (s : State) : Prop := (s.ph = phIdle ∨ s.ph = phDone ∨ s.ph = phFault) ∧ s.t = 0#7

/-- A call runs: the sequencer stands at an operation of the call, on a block of a message MSG can hold (45_sequencer
R177, 60_exceptions R204). -/
structure State.InCall (s : State) : Prop where
  busy : s.busy = true
  control : ∃ i, s.fetch = .ok i
  blkRange : s.blk.toNat < blockCount s.n
  blkStart : s.ph = phPad ∨ s.ph = phSeed → s.blk = 0#55
  length : s.n ≤ s.cfg.maxMsgBytes.toNat

/-- The part of the control invariant that speaks of PH, T, BLK and the message length. -/
def State.SequencerInv (s : State) : Prop := s.Waits ∨ s.InCall

theorem State.Waits.busy_eq {s : State} (h : s.Waits) : s.busy = false := by
  obtain ⟨hph | hph | hph, -⟩ := h <;> simp [State.busy, hph]

theorem State.SequencerInv.inCall {s : State} (hs : s.SequencerInv) (busy : s.busy = true) : s.InCall :=
  hs.resolve_left fun waits => Bool.false_ne_true (waits.busy_eq.symm.trans busy)

theorem State.SequencerInv.waits {s : State} (hs : s.SequencerInv) (idle : s.busy = false) : s.Waits :=
  hs.resolve_right fun call => Bool.false_ne_true (idle.symm.trans call.busy)

theorem State.Waits.coreTurn_eq {s : State} (h : s.Waits) : coreTurn s = .next s := by
  obtain ⟨hph | hph | hph, ht⟩ := h
  · exact coreTurn_of_ok ((s.fetch_ok_iff .idle).mpr ⟨hph, ht⟩)
  · exact coreTurn_of_done hph ht
  · exact coreTurn_of_ok ((s.fetch_ok_iff .fault).mpr ⟨hph, ht⟩)

theorem blockCount_pos (n : Nat) : 0 < blockCount n := by rw [blockCount_eq]; omega

/-- BLK + 1 does not wrap on a block of a message (41_padder R143; log 10). -/
theorem State.toNat_blk_succ {s : State} (h : s.blk.toNat < blockCount s.n) : (s.blk + 1#55).toNat = s.blk.toNat + 1 := by
  have := s.n_lt
  rw [blockCount_eq] at h
  rw [BitVec.toNat_add, BitVec.toNat_ofNat]
  omega

/-- T + 1 does not wrap below the last index of SCHED and ROUND. -/
theorem toNat_index_succ {t : BitVec 7} (h : t.toNat < 79) : (t + 1#7).toNat = t.toNat + 1 := by bv_omega

/-! ### Where an operation takes the sequencer -/

/-- The state with the sequencer moved on by the operation `i` and nothing else changed (45_sequencer R177). -/
def State.advance (s : State) : Instr → State
  | .pad => s.setPc phSeed 0#7 0#55
  | .seed => s.setPc phParse 0#7 0#55
  | .parse => s.setPc phSched 16#7 s.blk
  | .sched t => s.setPc (if t.toNat < 79 then phSched else phLoadv) (if t.toNat < 79 then t + 1#7 else 0#7) s.blk
  | .loadv => s.setPc phRound 0#7 s.blk
  | .round t => s.setPc (if t.toNat < 79 then phRound else phFold) (if t.toNat < 79 then t + 1#7 else 0#7) s.blk
  | .fold => s.setPc (if s.blk.toNat + 1 < blockCount s.n then phParse else phSerialize) 0#7
      (if s.blk.toNat + 1 < blockCount s.n then s.blk + 1#55 else s.blk)
  | .serialize => s.setPc phDone 0#7 s.blk
  | .idle | .done | .fault | .start => s

@[simp] theorem State.advance_fcause (s : State) (i : Instr) : (s.advance i).fcause = s.fcause := by cases i <;> rfl
@[simp] theorem State.advance_agenda (s : State) (i : Instr) : (s.advance i).agenda = s.agenda := by cases i <;> rfl

/-- In a call every operation fetched answers a next state, and moves the control part as `advance` does. -/
theorem exec_advances {s : State} {i : Instr} (hc : s.InCall) (hf : s.fetch = .ok i) :
    ∃ s', exec i s = .next s' ∧ s'.SameControl (s.advance i) := by
  have hphase := (s.fetch_ok_iff i).mp hf
  cases i with
  | start => exact hphase.elim
  | idle | done | fault => exact ⟨s, rfl, rfl, rfl, rfl, rfl, rfl, rfl, rfl⟩
  | pad => exact ⟨_, exec_pad_result hc.length, rfl, rfl, rfl, rfl, rfl, rfl, rfl⟩
  | seed => exact ⟨_, rfl, rfl, rfl, rfl, rfl, rfl, rfl, rfl⟩
  | parse => exact ⟨_, exec_parse_result hc.blkRange hc.length, rfl, rfl, rfl, rfl, rfl, rfl, rfl⟩
  | sched t => exact ⟨_, exec_sched_result s t hphase.2.2.1 hphase.2.2.2, rfl, rfl, rfl, rfl, rfl, rfl, rfl⟩
  | loadv => exact ⟨_, rfl, rfl, rfl, rfl, rfl, rfl, rfl, rfl⟩
  | round t => exact ⟨_, exec_round_result s t hphase.2.2, rfl, rfl, rfl, rfl, rfl, rfl, rfl⟩
  | fold => exact ⟨_, execFold_eq s, rfl, rfl, rfl, rfl, rfl, rfl, rfl⟩
  | serialize => exact ⟨_, exec_serialize_result s, rfl, rfl, rfl, rfl, rfl, rfl, rfl⟩

/-! ### What two states of one control part share -/

section
variable {s s' : State} (same : s.SameControl s')
include same

theorem State.SameControl.n_eq : s.n = s'.n := congrArg BitVec.toNat same.mlen

theorem State.SameControl.fetch_eq : s.fetch = s'.fetch := by
  rw [State.fetch_eq, State.fetch_eq, same.ph, same.t]

theorem State.SameControl.busy_eq : s.busy = s'.busy := by rw [State.busy, State.busy, same.ph]

theorem State.SameControl.inCall (h : s'.InCall) : s.InCall where
  busy := same.busy_eq.trans h.busy
  control := same.fetch_eq ▸ h.control
  blkRange := by rw [same.blk, same.n_eq]; exact h.blkRange
  blkStart := by rw [same.blk, same.ph]; exact h.blkStart
  length := by rw [same.cfg, same.n_eq]; exact h.length

end

/-! ### A call goes on until DONE -/

/-- A call begins at PAD. -/
theorem State.inCall_of_pad {s : State} (hph : s.ph = phPad) (ht : s.t = 0#7) (hblk : s.blk = 0#55)
    (hfit : s.n ≤ s.cfg.maxMsgBytes.toNat) : s.InCall where
  busy := by simp [State.busy, hph]
  control := ⟨.pad, (s.fetch_ok_iff _).mpr ⟨hph, ht⟩⟩
  blkRange := hblk ▸ blockCount_pos s.n
  blkStart := fun _ => hblk
  length := hfit

/-- From PARSE to SERIALIZE a call is in place wherever an operation can be fetched. -/
theorem State.InCall.setPc {s : State} (hc : s.InCall) {ph : BitVec 4} {t : BitVec 7} {blk : BitVec 55} {i : Instr}
    (hf : (s.setPc ph t blk).fetch = .ok i) (phase : 3 ≤ ph.toNat ∧ ph.toNat ≤ 8) (hblk : blk.toNat < blockCount s.n) :
    (s.setPc ph t blk).InCall where
  busy := (State.busy_iff _).mpr ⟨Nat.le_trans (by decide) phase.1, phase.2⟩
  control := ⟨i, hf⟩
  blkRange := hblk
  blkStart := by rintro (rfl | rfl) <;> exact absurd phase.1 (by decide)
  length := hc.length

theorem State.InCall.advance {s : State} {i : Instr} (hc : s.InCall) (hf : s.fetch = .ok i) :
    (s.advance i).InCall ∨ (s.advance i).ph = phDone ∧ (s.advance i).t = 0#7 := by
  have hphase := (s.fetch_ok_iff i).mp hf
  have hblk := hc.blkRange
  cases i with
  | start => exact hphase.elim
  | idle | done | fault => exact absurd hc.busy (by simp [State.busy, hphase.1])
  | pad =>
    exact .inl ⟨rfl, ⟨.seed, (State.fetch_ok_iff _ _).mpr ⟨rfl, rfl⟩⟩, blockCount_pos _, fun _ => rfl, hc.length⟩
  | seed =>
    exact .inl (hc.setPc ((State.fetch_ok_iff _ .parse).mpr ⟨rfl, rfl⟩) (by decide) (blockCount_pos _))
  | parse =>
    exact .inl (hc.setPc ((State.fetch_ok_iff _ (.sched 16#7)).mpr ⟨rfl, rfl, by decide, by decide⟩) (by decide) hblk)
  | sched t =>
    obtain ⟨-, -, h16, -⟩ := hphase
    by_cases more : t.toNat < 79
    · have next := toNat_index_succ more
      simp only [State.advance, if_pos more]
      exact .inl (hc.setPc ((State.fetch_ok_iff _ (.sched (t + 1#7))).mpr ⟨rfl, rfl, by omega, by omega⟩) (by decide)
        hblk)
    · simp only [State.advance, if_neg more]
      exact .inl (hc.setPc ((State.fetch_ok_iff _ .loadv).mpr ⟨rfl, rfl⟩) (by decide) hblk)
  | loadv =>
    exact .inl (hc.setPc ((State.fetch_ok_iff _ (.round 0#7)).mpr ⟨rfl, rfl, by decide⟩) (by decide) hblk)
  | round t =>
    by_cases more : t.toNat < 79
    · have next := toNat_index_succ more
      simp only [State.advance, if_pos more]
      exact .inl (hc.setPc ((State.fetch_ok_iff _ (.round (t + 1#7))).mpr ⟨rfl, rfl, by omega⟩) (by decide) hblk)
    · simp only [State.advance, if_neg more]
      exact .inl (hc.setPc ((State.fetch_ok_iff _ .fold).mpr ⟨rfl, rfl⟩) (by decide) hblk)
  | fold =>
    by_cases more : s.blk.toNat + 1 < blockCount s.n
    · simp only [State.advance, if_pos more]
      exact .inl (hc.setPc ((State.fetch_ok_iff _ .parse).mpr ⟨rfl, rfl⟩) (by decide)
        ((State.toNat_blk_succ hblk).symm ▸ more))
    · simp only [State.advance, if_neg more]
      exact .inl (hc.setPc ((State.fetch_ok_iff _ .serialize).mpr ⟨rfl, rfl⟩) (by decide) hblk)
  | serialize => exact .inr ⟨rfl, rfl⟩

/-- In a call the next state is in the call still or in DONE, with the control part that `advance` gives. -/
theorem coreTurn_of_inCall {s : State} (hc : s.InCall) :
    ∃ i s', s.fetch = .ok i ∧ coreTurn s = .next s' ∧ s'.SameControl (s.advance i) ∧
      (s'.InCall ∨ s'.ph = phDone ∧ s'.t = 0#7) := by
  obtain ⟨i, hf⟩ := hc.control
  obtain ⟨s', hx, same⟩ := exec_advances hc hf
  refine ⟨i, s', hf, (coreTurn_of_ok hf).trans hx, same, (hc.advance hf).imp same.inCall fun ⟨hph, ht⟩ => ?_⟩
  exact ⟨same.ph.trans hph, same.t.trans ht⟩

end Sys2Proof.Machine
end

section
/-! O44: the control invariant is three invariants, of the sequencer, of FCAUSE and of the memories. Each is kept by the
operations and by the host events on its own account (45_sequencer R177, 10_state R32, 20_memory R69). -/

namespace Sys2Proof.Machine

/-! ### The three parts -/

/-- A memory in canonical form that lists only cells of a space of `k` cells (20_memory R60). -/
def Memory.FitsIn (m : Memory) (k : Nat) : Prop := m.wf ∧ ∀ c ∈ m, c.1 < k

/-- Each of the three memories fits its space. -/
structure State.MemoriesFit (s : State) : Prop where
  msg : s.msg.FitsIn s.cfg.maxMsgBytes.toNat
  pmb : s.pmb.FitsIn (s.size .pmb)
  dig : s.dig.FitsIn 64

/-- FCAUSE is 0 exactly while FAULT = 0 (10_state R32). -/
def State.CauseMatches (s : State) : Prop := s.fcause = causeNone ↔ s.isFault = false

theorem State.memoriesFit_iff (s : State) :
    s.MemoriesFit ↔ (∀ sp, (s.space sp).wf) ∧ ∀ sp, ∀ c ∈ s.space sp, c.1 < s.size sp := by
  refine ⟨fun ⟨msg, pmb, dig⟩ => ⟨fun sp => ?canonical, fun sp => ?inside⟩, fun ⟨canonical, inside⟩ =>
    ⟨⟨canonical .msg, inside .msg⟩, ⟨canonical .pmb, inside .pmb⟩, ⟨canonical .dig, inside .dig⟩⟩⟩
  case canonical =>
    cases sp with
    | msg => exact msg.1
    | pmb => exact pmb.1
    | dig => exact dig.1
  case inside =>
    cases sp with
    | msg => exact msg.2
    | pmb => exact pmb.2
    | dig => exact dig.2

theorem State.ControlInv.sequencerInv {s : State} (h : s.ControlInv) : s.SequencerInv := by
  by_cases busy : s.busy = true
  · have hblk : s.blk.toNat < blockCount s.n := by
      obtain ⟨h1, h8⟩ := s.busy_iff.mp busy
      by_cases h3 : 3 ≤ s.ph.toNat
      · exact h.blkRange h3 h8
      · have start : s.ph = phPad ∨ s.ph = phSeed := by bv_omega
        rw [h.blkStart start]
        exact blockCount_pos _
    exact .inr ⟨busy, h.control, hblk, h.blkStart, h.length busy⟩
  · obtain ⟨i, hf⟩ := h.control
    rw [State.fetch_ok_iff] at hf
    cases i with
    | start => exact hf.elim
    | idle => exact .inl ⟨.inl hf.1, hf.2⟩
    | done => exact .inl ⟨.inr (.inl hf.1), hf.2⟩
    | fault => exact .inl ⟨.inr (.inr hf.1), hf.2⟩
    | _ => exact absurd (s.busy_iff.mpr (by rw [hf.1]; decide)) busy

theorem State.SequencerInv.controlInv {s : State} (hs : s.SequencerInv) (cause : s.CauseMatches)
    (memories : s.MemoriesFit) : s.ControlInv where
  control := by
    obtain ⟨hph | hph | hph, ht⟩ | call := hs
    · exact ⟨.idle, (s.fetch_ok_iff _).mpr ⟨hph, ht⟩⟩
    · exact ⟨.done, (s.fetch_ok_iff _).mpr ⟨hph, ht⟩⟩
    · exact ⟨.fault, (s.fetch_ok_iff _).mpr ⟨hph, ht⟩⟩
    · exact call.control
  blkRange h3 h8 := (hs.inCall (s.busy_iff.mpr ⟨by omega, h8⟩)).blkRange
  blkStart start := (hs.inCall (s.busy_iff.mpr (by obtain h | h := start <;> rw [h] <;> decide))).blkStart start
  length busy := (hs.inCall busy).length
  cause := cause
  canonical := (s.memoriesFit_iff.mp memories).1
  inside := (s.memoriesFit_iff.mp memories).2

theorem State.ControlInv.memoriesFit {s : State} (h : s.ControlInv) : s.MemoriesFit :=
  s.memoriesFit_iff.mpr ⟨h.canonical, h.inside⟩

/-- The model's own record has no part in the invariant. -/
theorem State.ControlInv.withRecord {s : State} (hi : s.ControlInv) (k : Nat) (l : List Turn) (r : List Reply) :
    ({ s with draws := k, agenda := l, replies := r } : State).ControlInv :=
  ⟨hi.control, hi.blkRange, hi.blkStart, hi.length, hi.cause, hi.canonical, hi.inside⟩

/-! ### The memories -/

theorem Memory.fitsIn_nil (k : Nat) : Memory.FitsIn [] k := ⟨List.Pairwise.nil, by simp⟩

theorem Memory.FitsIn.write {m : Memory} {k a : Nat} (h : m.FitsIn k) (ha : a < k) (x : Byte) : (m.write a x).FitsIn k :=
  ⟨Memory.wf_write h.1 a x, Memory.forall_write (p := (· < k)) ha h.2⟩

theorem Memory.FitsIn.writeAll {m : Memory} {k n : Nat} (h : m.FitsIn k) (v : Vector Byte n) (hn : n ≤ k) :
    (m.writeAll 0 v.toList).FitsIn k :=
  ⟨Memory.wf_writeAll _ h.1 0, Memory.forall_writeAll (p := (· < k)) _ (by simp; omega) h.2⟩

theorem State.raise_memoriesFit {s : State} (h : s.MemoriesFit) (c : BitVec 2) : (s.raise c).MemoriesFit := by
  by_cases hph : s.ph = phFault
  · rwa [State.raise_of_eq hph]
  · rw [State.raise_of_ne hph]
    exact ⟨h.msg, Memory.fitsIn_nil _, Memory.fitsIn_nil _⟩

/-- PAD, SERIALIZE, START and a fault are all that touch a memory; PAD writes P(n) cells and SERIALIZE 64 (10_state R43). -/
theorem exec_keeps_memoriesFit {s s' : State} {i : Instr} (hm : s.MemoriesFit) (h : exec i s = .next s') :
    s'.MemoriesFit := by
  cases i with
  | idle | done | fault => cases h; exact hm
  | seed | loadv => cases h; exact ⟨hm.msg, hm.pmb, hm.dig⟩
  | sched t =>
    obtain ⟨-, rfl⟩ := execSched_next.mp h
    exact ⟨hm.msg, hm.pmb, hm.dig⟩
  | round t =>
    obtain ⟨-, rfl⟩ := execRound_next.mp h
    exact ⟨hm.msg, hm.pmb, hm.dig⟩
  | fold =>
    rw [exec, execFold_eq] at h
    cases h; exact ⟨hm.msg, hm.pmb, hm.dig⟩
  | pad =>
    obtain ⟨hfit, rfl⟩ := execPad_next.mp h
    exact ⟨by simpa using hm.msg, by simpa using hm.pmb.writeAll _ (paddedLength_le_size hfit), by simpa using hm.dig⟩
  | parse =>
    obtain ⟨-, -, rfl⟩ | ⟨-, rfl⟩ := execParse_next.mp h
    · exact ⟨by simpa using hm.msg, by simpa using hm.pmb, by simpa using hm.dig⟩
    · exact State.raise_memoriesFit hm _
  | serialize =>
    rw [exec, execSerialize_eq] at h
    cases h
    exact ⟨by simpa using hm.msg, by simpa using hm.pmb, by simpa using hm.dig.writeAll _ (Nat.le_refl 64)⟩
  | start =>
    rw [exec, execStart_eq] at h
    cases h
    split_ifs
    · exact State.raise_memoriesFit hm _
    · exact ⟨hm.msg, hm.pmb, Memory.fitsIn_nil _⟩
    · exact State.raise_memoriesFit hm _
    · exact hm

/-! ### The sequencer's turn -/

theorem State.InCall.isFault_eq {s : State} (hc : s.InCall) : s.isFault = false := by
  simpa [State.isFault] using State.ph_ne_fault_of_busy hc.busy

theorem coreTurn_keeps_controlInv {s s' : State} (hi : s.ControlInv) (h : coreTurn s = .next s') : s'.ControlInv := by
  obtain waits | call := hi.sequencerInv
  · cases waits.coreTurn_eq.symm.trans h
    exact hi
  obtain ⟨i, s₁, hf, taken, same, stands⟩ := coreTurn_of_inCall call
  cases taken.symm.trans h
  have sequencer : s'.SequencerInv := stands.symm.imp (fun ⟨hph, ht⟩ => ⟨.inr (.inl hph), ht⟩) id
  have noFault : s'.isFault = false := by
    obtain call' | ⟨hph, -⟩ := stands
    · exact call'.isFault_eq
    · simp [State.isFault, hph, phDone, phFault]
  have noCause : s'.fcause = causeNone := by
    rw [same.fcause, State.advance_fcause]
    exact hi.cause.mpr call.isFault_eq
  exact sequencer.controlInv (iff_of_true noCause noFault)
    (exec_keeps_memoriesFit hi.memoriesFit ((coreTurn_of_ok hf).symm.trans taken))

/-! ### The host events -/

theorem State.raise_controlInv {s : State} (hi : s.ControlInv) {c : BitVec 2} (hc : c ≠ causeNone) :
    (s.raise c).ControlInv := by
  by_cases hph : s.ph = phFault
  · rwa [State.raise_of_eq hph]
  · have memories := State.raise_memoriesFit hi.memoriesFit c
    rw [State.raise_of_ne hph] at memories ⊢
    exact State.SequencerInv.controlInv (.inl ⟨.inr (.inr rfl), rfl⟩) (iff_of_false hc (by simp [State.isFault])) memories

theorem State.resetNow_controlInv (s : State) : s.resetNow.ControlInv :=
  State.SequencerInv.controlInv (.inl ⟨.inl rfl, rfl⟩) (iff_of_true rfl (by rfl))
    ⟨Memory.fitsIn_nil _, Memory.fitsIn_nil _, Memory.fitsIn_nil _⟩

/-- A write that keeps the fields the sequencer stands on, while it waits. -/
theorem State.ControlInv.of_waits {s s' : State} (hi : s.ControlInv) (idle : s.busy = false) (hph : s'.ph = s.ph)
    (ht : s'.t = s.t) (hcause : s'.fcause = s.fcause) (memories : s'.MemoriesFit) : s'.ControlInv := by
  have waits : s'.Waits := by
    rw [State.Waits, hph, ht]
    exact hi.sequencerInv.waits idle
  have cause : s'.CauseMatches := by
    rw [State.CauseMatches, hcause, State.isFault, hph]
    exact hi.cause
  exact State.SequencerInv.controlInv (.inl waits) cause memories

theorem execStart_keeps_controlInv {s s' : State} (hi : s.ControlInv) (h : exec .start s = .next s') :
    s'.ControlInv := by
  have memories := exec_keeps_memoriesFit hi.memoriesFit h
  rw [exec, execStart_eq] at h
  cases h
  split_ifs at memories ⊢ with waits tooLong
  · exact State.raise_controlInv hi (by decide)
  · have noFault : s.isFault = false := by obtain hph | hph := waits <;> simp [State.isFault, hph, phIdle, phDone, phFault]
    have call : ((s.setDig []).setPc phPad 0#7 0#55).InCall :=
      State.inCall_of_pad rfl rfl rfl (Nat.not_lt.mp tooLong)
    exact State.SequencerInv.controlInv (.inr call) (iff_of_true (hi.cause.mpr noFault) rfl) memories
  · exact State.raise_controlInv hi (by decide)
  · exact hi

theorem hostTurn_keeps_controlInv {e : HostEvent} {s s' : State} (hi : s.ControlInv) (h : hostTurn e s = .next s') :
    s'.ControlInv := by
  have memories := hi.memoriesFit
  cases e with
  | reset => cases h; exact s.resetNow_controlInv
  | writeCtrl b =>
    obtain rfl | rfl := BitVec.eq_zero_or_eq_one b
    · cases h; exact hi
    · exact execStart_keeps_controlInv hi h
  | writeMsg a b =>
    rw [hostTurn_writeMsg] at h
    split_ifs at h with busy inside <;> cases h
    · exact State.raise_controlInv hi (by decide)
    · exact hi.of_waits (Bool.eq_false_of_not_eq_true busy) rfl rfl rfl
        ⟨memories.msg.write inside b, memories.pmb, memories.dig⟩
  | writeMlen n =>
    rw [hostTurn_writeMlen] at h
    cases h
    split_ifs with busy
    · exact State.raise_controlInv hi (by decide)
    · exact hi.of_waits (Bool.eq_false_of_not_eq_true busy) rfl rfl rfl ⟨memories.msg, memories.pmb, memories.dig⟩
  | writeStatus v => cases h; exact hi
  | readMlen | readStatus | readDig => cases h; exact hi.withRecord _ _ _

/-- Settles O44: the sequencer's turn and every host event keep the invariant, so every step does. -/
theorem controlInvariantIsKept : Obligations.ControlInvariantIsKept := by
  intro s s' hi h
  exact step_keeps (P := State.ControlInv) (fun s l hi => hi.withRecord s.draws l s.replies)
    (fun s s' hi h => coreTurn_keeps_controlInv hi h) (fun e s s' hi h => hostTurn_keeps_controlInv hi h) hi h

end Sys2Proof.Machine
end

section
/-! O48: the table of the next (PH, T, BLK) is where the operation fetched takes the sequencer (45_sequencer R177). -/

namespace Sys2Proof.Machine

/-- Settles O48: each row of the table is `advance` of the operation of its phase, and in a wait state nothing moves. -/
theorem nextStateTable : Obligations.NextStateTable := by
  intro s s' hi hturn h
  rw [step_of_no_turn hturn] at h
  obtain waits | call := hi.sequencerInv
  · cases waits.coreTurn_eq.symm.trans h
    obtain ⟨hph | hph | hph, -⟩ := waits <;> simp [hph]
  · obtain ⟨i, s₁, hf, taken, same, -⟩ := coreTurn_of_inCall call
    cases taken.symm.trans h
    have hphase := (s.fetch_ok_iff i).mp hf
    rw [same.ph, same.t, same.blk]
    cases i with
    | start => exact hphase.elim
    | sched t =>
      obtain ⟨hph, rfl, -⟩ := hphase
      by_cases more : s.t.toNat < 79 <;> simp [State.advance, hph, more]
    | round t =>
      obtain ⟨hph, rfl, -⟩ := hphase
      by_cases more : s.t.toNat < 79 <;> simp [State.advance, hph, more]
    | fold =>
      by_cases more : s.blk.toNat + 1 < blockCount s.n <;> simp [State.advance, hphase.1, more]
    | _ => simp [State.advance, hphase.1]

end Sys2Proof.Machine
end

section
/-! O50: of two states of one control part, what one can do the other can, and it leads both to one control part: what a
turn answers and where it leads is decided by PH, T, BLK, MLEN and the parameters (45_sequencer R183). -/

namespace Sys2Proof.Machine

theorem State.sameControl_iff (s r : State) : s.SameControl r ↔ s.ph = r.ph ∧ s.t = r.t ∧ s.blk = r.blk ∧
    s.fcause = r.fcause ∧ s.mlen = r.mlen ∧ s.cfg = r.cfg ∧ s.agenda = r.agenda :=
  ⟨fun ⟨ph, t, blk, fcause, mlen, cfg, agenda⟩ => ⟨ph, t, blk, fcause, mlen, cfg, agenda⟩,
    fun ⟨ph, t, blk, fcause, mlen, cfg, agenda⟩ => ⟨ph, t, blk, fcause, mlen, cfg, agenda⟩⟩

/-- An edge that is no reset answers a next state exactly when its micro-operation does and the event does after it. -/
theorem edgeTurn_of_ne_reset {e : HostEvent} (h : e ≠ .reset) {s s' : State} :
    edgeTurn e s = .next s' ↔ ∃ s₁, coreTurn s = .next s₁ ∧ hostTurn e s₁ = .next s' := by
  rw [edgeTurn, if_neg h]
  cases coreTurn s <;> simp

section
variable {s r : State} (same : s.SameControl r)
include same

/-! ### The operations of the sequencer -/

theorem State.SameControl.blockAddr_eq : s.blockAddr = r.blockAddr := by
  rw [State.blockAddr, State.blockAddr, same.blk]

theorem State.SameControl.size_eq (sp : Space) : s.size sp = r.size sp := by
  cases sp <;> simp [State.size, same.cfg]

theorem State.SameControl.setAgenda (l : List Turn) : (s.setAgenda l).SameControl (r.setAgenda l) :=
  ⟨same.ph, same.t, same.blk, same.fcause, same.mlen, same.cfg, rfl⟩

theorem State.SameControl.raise (c : BitVec 2) : (s.raise c).SameControl (r.raise c) := by
  by_cases hph : s.ph = phFault
  · rwa [State.raise_of_eq hph, State.raise_of_eq (same.ph ▸ hph)]
  · rw [State.raise_of_ne hph, State.raise_of_ne (same.ph ▸ hph)]
    exact ⟨rfl, rfl, rfl, rfl, same.mlen, same.cfg, same.agenda⟩

theorem State.SameControl.execStart {s' : State} (h : exec .start s = .next s') :
    ∃ r', exec .start r = .next r' ∧ s'.SameControl r' := by
  rw [exec, execStart_eq] at h
  cases h
  rw [exec, execStart_eq, ← same.ph, ← same.cfg, ← same.n_eq, ← same.busy_eq]
  refine ⟨_, rfl, ?_⟩
  split_ifs
  · exact same.raise _
  · exact ⟨rfl, rfl, rfl, same.fcause, same.mlen, same.cfg, same.agenda⟩
  · exact same.raise _
  · exact same

/-- An operation answers both states or neither: the length, the block and the index it is given decide. -/
theorem State.SameControl.exec {i : Instr} {s' : State} (h : exec i s = .next s') :
    ∃ r', exec i r = .next r' ∧ s'.SameControl r' := by
  have fields := (s.sameControl_iff r).mp same
  cases i with
  | start => exact same.execStart h
  | idle | done | fault => cases h; exact ⟨r, rfl, same⟩
  | seed | loadv =>
    cases h
    exact ⟨_, rfl, by simp [State.sameControl_iff, fields]⟩
  | pad =>
    obtain ⟨hfit, rfl⟩ := execPad_next.mp h
    exact ⟨_, execPad_next.mpr ⟨by rwa [← same.n_eq, ← same.cfg], rfl⟩, by simp [State.sameControl_iff, fields]⟩
  | parse =>
    rw [Machine.exec, execParse_next, same.blockAddr_eq, same.n_eq, same.size_eq] at h
    obtain ⟨hblk, hbuf, rfl⟩ | ⟨beyond, rfl⟩ := h
    · exact ⟨_, execParse_next.mpr (.inl ⟨hblk, hbuf, rfl⟩), by simp [State.sameControl_iff, fields]⟩
    · exact ⟨_, execParse_next.mpr (.inr ⟨beyond, rfl⟩), same.raise _⟩
  | sched t =>
    obtain ⟨range, rfl⟩ := execSched_next.mp h
    exact ⟨_, execSched_next.mpr ⟨range, rfl⟩, by simp [State.sameControl_iff, fields]⟩
  | round t =>
    obtain ⟨range, rfl⟩ := execRound_next.mp h
    exact ⟨_, execRound_next.mpr ⟨range, rfl⟩, by simp [State.sameControl_iff, fields]⟩
  | fold =>
    rw [Machine.exec, execFold_eq] at h
    cases h
    exact ⟨_, execFold_eq r, by simp [State.sameControl_iff, fields, same.n_eq]⟩
  | serialize =>
    rw [Machine.exec, execSerialize_eq] at h
    cases h
    exact ⟨_, execSerialize_eq r, by simp [State.sameControl_iff, fields]⟩

theorem State.SameControl.coreTurn {s' : State} (h : coreTurn s = .next s') :
    ∃ r', coreTurn r = .next r' ∧ s'.SameControl r' := by
  obtain ⟨i, hf, hx⟩ := coreTurn_next.mp h
  obtain ⟨r', hr, after⟩ := same.exec hx
  exact ⟨r', coreTurn_next.mpr ⟨i, same.fetch_eq ▸ hf, hr⟩, after⟩

/-! ### The host events -/

theorem State.SameControl.hostTurn {e : HostEvent} {s' : State} (h : hostTurn e s = .next s') :
    ∃ r', hostTurn e r = .next r' ∧ s'.SameControl r' := by
  have fields := (s.sameControl_iff r).mp same
  cases e with
  | reset =>
    cases h
    exact ⟨_, rfl, by simp [State.sameControl_iff, fields]⟩
  | writeCtrl b =>
    obtain rfl | rfl := BitVec.eq_zero_or_eq_one b
    · cases h; exact ⟨r, rfl, same⟩
    · exact same.execStart h
  | writeMsg a b =>
    rw [hostTurn_writeMsg] at h ⊢
    rw [← same.busy_eq, ← same.cfg]
    split_ifs at h ⊢ with busy inside <;> cases h
    · exact ⟨_, rfl, same.raise _⟩
    · exact ⟨_, rfl, by simp [State.sameControl_iff, fields]⟩
  | writeMlen n =>
    rw [hostTurn_writeMlen] at h ⊢
    cases h
    refine ⟨_, rfl, ?_⟩
    rw [← same.busy_eq]
    split_ifs
    · exact same.raise _
    · simp [State.sameControl_iff, fields]
  | writeStatus v => cases h; exact ⟨r, rfl, same⟩
  | readMlen | readStatus | readDig =>
    cases h
    exact ⟨_, rfl, by simp [State.sameControl_iff, fields]⟩

theorem State.SameControl.edgeTurn {e : HostEvent} {s' : State} (h : edgeTurn e s = .next s') :
    ∃ r', edgeTurn e r = .next r' ∧ s'.SameControl r' := by
  by_cases reset : e = .reset
  · rw [Machine.edgeTurn, if_pos reset] at h ⊢
    exact same.hostTurn h
  · obtain ⟨s₁, hcore, hhost⟩ := (edgeTurn_of_ne_reset reset).mp h
    obtain ⟨r₁, hcore', same₁⟩ := same.coreTurn hcore
    obtain ⟨r', hhost', same'⟩ := same₁.hostTurn hhost
    exact ⟨r', (edgeTurn_of_ne_reset reset).mpr ⟨r₁, hcore', hhost'⟩, same'⟩

end

/-- Settles O50: the turns to come are the same, and each leads both states to one control part. -/
theorem controlFlowDependsOnLengthAlone : Obligations.ControlFlowDependsOnLengthAlone := by
  intro s r s' same h
  match hturn : s.agenda with
  | [] =>
    rw [step_of_no_turn hturn] at h
    rw [step_of_no_turn (same.agenda ▸ hturn)]
    exact same.coreTurn h
  | .core :: rest =>
    rw [step_of_core hturn] at h
    rw [step_of_core (same.agenda ▸ hturn)]
    exact (same.setAgenda rest).coreTurn h
  | .host e :: rest =>
    rw [step_of_host hturn] at h
    rw [step_of_host (same.agenda ▸ hturn)]
    exact (same.setAgenda rest).hostTurn h
  | .edge e :: rest =>
    rw [step_of_edge hturn] at h
    rw [step_of_edge (same.agenda ▸ hturn)]
    exact (same.setAgenda rest).edgeTurn h

end Sys2Proof.Machine
end

section
/-! O27, O28, O31: SEED, the wait states and START (45_sequencer R175, R176, R179). -/

namespace Sys2Proof.Machine

/-- Settles O27: the eight words of IV, written out. -/
theorem seedLoadsTheInitialHash : Obligations.SeedLoadsTheInitialHash := by
  intro s
  rw [exec, execSeed, wordFile]
  rfl

/-- Settles O28: the three operations answer the state itself, and each is the one fetched in its phase. -/
theorem waitStatesChangeNothing : Obligations.WaitStatesChangeNothing :=
  ⟨fun _ => ⟨rfl, rfl, rfl⟩, fun _ hph ht hturn =>
    (step_of_no_turn hturn).trans (State.Waits.coreTurn_eq ⟨hph, ht⟩)⟩

/-- START is accepted in IDLE and DONE when MSG can hold the message. -/
theorem exec_start_of_accepted {s : State} (waits : s.ph = 0#4 ∨ s.ph = 9#4) (hfit : s.n ≤ s.cfg.maxMsgBytes.toNat) :
    exec .start s = .next { s with dig := [], ph := 1#4, t := 0#7, blk := 0#55 } := by
  rw [exec, execStart_eq, if_pos waits, if_neg (Nat.not_lt.mpr hfit)]
  rfl

/-- Settles O31: the phase decides between the clauses, and in IDLE and DONE the length. -/
theorem startBeginsACall : Obligations.StartBeginsACall := by
  refine fun s => ⟨exec_start_of_accepted, fun waits tooLong => ?lenRange, fun h1 h8 => ?hostProtocol,
    fun hph => ?noEffect⟩
  case lenRange => rw [exec, execStart_eq, if_pos waits, if_pos tooLong]
  case hostProtocol =>
    have busy : s.busy = true := s.busy_iff.mpr ⟨h1, h8⟩
    have notWaiting : ¬ (s.ph = phIdle ∨ s.ph = phDone) := by bv_omega
    rw [exec, execStart_eq, if_neg notWaiting, if_pos busy]
  case noEffect =>
    have notBusy : ¬ s.busy = true := by simp [State.busy, hph]
    have notWaiting : ¬ (s.ph = phIdle ∨ s.ph = phDone) := by simp [hph, phIdle, phDone]
    rw [exec, execStart_eq, if_neg notWaiting, if_neg notBusy]

/-- The host's turn of an accepted START leaves the sequencer at PAD. -/
theorem step_start_of_accepted {s : State} (waits : s.ph = 0#4 ∨ s.ph = 9#4) (hturn : s.agenda = [.host (.writeCtrl 1#1)])
    (hfit : s.n ≤ s.cfg.maxMsgBytes.toNat) :
    step s = .next { s with dig := [], ph := 1#4, t := 0#7, blk := 0#55, agenda := [] } :=
  (step_of_host hturn).trans (exec_start_of_accepted (s := s.setAgenda []) waits hfit)

end Sys2Proof.Machine
end

section
/-! O56: the micro-operations that remain of a call, as a number the place of the sequencer and N decide. Every
micro-operation takes one off (45_sequencer R181, R182). -/

namespace Sys2Proof.Machine

/-- The blocks of the message that come after the one the sequencer is on. -/
def State.laterBlocks (s : State) : Nat := blockCount s.n - (s.blk.toNat + 1)

/-- The micro-operations between here and DONE: from PARSE on, what is left of this block, 147 for each later one, and
SERIALIZE (45_sequencer R181). -/
def State.remaining (s : State) : Nat :=
  match s.ph.toNat with
  | 1 => 147 * blockCount s.n + 3
  | 2 => 147 * blockCount s.n + 2
  | 3 => 147 * s.laterBlocks + 148
  | 4 => 147 * s.laterBlocks + (163 - s.t.toNat)
  | 5 => 147 * s.laterBlocks + 83
  | 6 => 147 * s.laterBlocks + (82 - s.t.toNat)
  | 7 => 147 * s.laterBlocks + 2
  | 8 => 1
  | _ => 0

theorem State.SameControl.remaining_eq {s s' : State} (same : s.SameControl s') : s.remaining = s'.remaining := by
  simp only [State.remaining, State.laterBlocks, same.ph, same.t, same.blk, same.n_eq]

/-- Every operation of a call takes one off. -/
theorem State.InCall.remaining_advance {s : State} {i : Instr} (hc : s.InCall) (hf : s.fetch = .ok i) :
    (s.advance i).remaining + 1 = s.remaining := by
  have hphase := (s.fetch_ok_iff i).mp hf
  have hblk := hc.blkRange
  cases i with
  | start => exact hphase.elim
  | idle | done | fault => exact absurd hc.busy (by simp [State.busy, hphase.1])
  | pad => simp [State.remaining, State.advance, hphase.1]
  | seed =>
    have := blockCount_pos s.n
    simp [State.remaining, State.laterBlocks, State.advance, hphase.1]
    omega
  | parse => simp [State.remaining, State.laterBlocks, State.advance, hphase.1]
  | sched t =>
    obtain ⟨hph, rfl, h16, h79⟩ := hphase
    by_cases more : s.t.toNat < 79
    · have next := toNat_index_succ more
      simp [State.remaining, State.laterBlocks, State.advance, hph, more, -BitVec.toNat_add, next]
      omega
    · simp [State.remaining, State.laterBlocks, State.advance, hph, more]
      omega
  | loadv => simp [State.remaining, State.laterBlocks, State.advance, hphase.1]
  | round t =>
    obtain ⟨hph, rfl, h79⟩ := hphase
    by_cases more : s.t.toNat < 79
    · have next := toNat_index_succ more
      simp [State.remaining, State.laterBlocks, State.advance, hph, more, -BitVec.toNat_add, next]
      omega
    · simp [State.remaining, State.laterBlocks, State.advance, hph, more]
      omega
  | fold =>
    by_cases more : s.blk.toNat + 1 < blockCount s.n
    · have next := State.toNat_blk_succ hblk
      simp [State.remaining, State.laterBlocks, State.advance, hphase.1, more, -BitVec.toNat_add, next]
      omega
    · simp [State.remaining, State.laterBlocks, State.advance, hphase.1, more]
      omega
  | serialize => simp [State.remaining, State.advance, hphase.1]

theorem State.remaining_of_done {s : State} (h : s.ph = phDone) : s.remaining = 0 := by simp [State.remaining, h]

/-- The sequencer alone takes a call one micro-operation further for each step, up to DONE. -/
theorem steps_of_inCall {s : State} (hc : s.InCall) (hturn : s.agenda = []) (k : Nat) (hk : k ≤ s.remaining) :
    ∃ s', steps k s = .next s' ∧ s'.agenda = [] ∧ s'.remaining + k = s.remaining ∧ (s'.InCall ∨ s'.ph = phDone) := by
  induction k with
  | zero => exact ⟨s, rfl, hturn, rfl, .inl hc⟩
  | succ k ih =>
    obtain ⟨s₁, run, hturn₁, left, stands⟩ := ih (Nat.le_of_succ_le hk)
    have call : s₁.InCall := stands.resolve_right fun done => by
      rw [State.remaining_of_done done] at left
      omega
    obtain ⟨i, s₂, hf, taken, same, stands₂⟩ := coreTurn_of_inCall call
    have one := call.remaining_advance hf
    refine ⟨s₂, ?run, ?noTurn, ?left, stands₂.imp id And.left⟩
    case run => exact (steps_add_of_next run 1).trans (steps_succ_of_next ((step_of_no_turn hturn₁).trans taken) 0)
    case noTurn => rw [same.agenda, State.advance_agenda, hturn₁]
    case left =>
      rw [same.remaining_eq]
      omega

/-- Settles O56: START leaves 3 + 147·N micro-operations, and the call is BUSY while any of them is left. -/
theorem callTakesItsStepCount : Obligations.CallTakesItsStepCount := by
  intro s waits hturn hfit
  have started := step_start_of_accepted waits hturn hfit
  set s₀ : State := { s with dig := [], ph := 1#4, t := 0#7, blk := 0#55, agenda := [] }
  have call : s₀.InCall := State.inCall_of_pad rfl rfl rfl hfit
  have total : s₀.remaining = 3 + 147 * blockCount s.n := Nat.add_comm _ _
  have after (k : Nat) (hk : k ≤ 3 + 147 * blockCount s.n) : ∃ s', steps (1 + k) s = .next s' ∧
      s'.remaining + k = 3 + 147 * blockCount s.n ∧ (s'.InCall ∨ s'.ph = phDone) := by
    obtain ⟨s', run, -, left, stands⟩ := steps_of_inCall call rfl k (total ▸ hk)
    exact ⟨s', by rw [Nat.add_comm, steps_succ_of_next started, run], left.trans total, stands⟩
  refine ⟨fun k hk => ?busy, ?done⟩
  case busy =>
    obtain ⟨s', run, left, call' | done⟩ := after k hk.le
    · exact ⟨s', run, call'.busy⟩
    · rw [State.remaining_of_done done] at left
      omega
  case done =>
    obtain ⟨s', run, left, call' | done⟩ := after _ (Nat.le_refl _)
    · obtain ⟨i, hf⟩ := call'.control
      have := call'.remaining_advance hf
      omega
    · exact ⟨s', run, s'.isDone_iff.mpr done⟩

end Sys2Proof.Machine
end

section
/-! O55: PAD and SEED put the padded message in PMB and the initial hash value in H, and each block takes H one link
further along the chain of the message (45_sequencer R180). -/

namespace Sys2Proof.Machine

theorem Memory.read_writeAll_zero {n : Nat} (mem : Memory) (v : Vector Byte n) (a : Nat) (ha : a < n) :
    (mem.writeAll 0 v.toList).read a = some v[a] :=
  (mem.read_writeAll_vector 0 a v).trans (dif_pos ⟨Nat.zero_le _, ha⟩)

/-- COMPRESS on block `k` of a message of `n` bytes (43_compressor R163). -/
theorem steps_compress {s : State} {x : Vector Word 8} {y : Vector Word 80} {n k : Nat} (hph : s.ph = 5#4) (ht : s.t = 0#7)
    (hturn : s.agenda = []) (hh : s.h = wordFile x) (hw : s.w = wordFile y) (hn : s.mlen.toNat = n)
    (hblk : s.blk.toNat = k) :
    ∃ v d, steps 82 s = .next { s with
      h := wordFile (compress x y)
      v := v
      ph := if k + 1 < blockCount n then 3#4 else 8#4
      t := 0#7
      blk := if k + 1 < blockCount n then s.blk + 1#55 else s.blk
      draws := d } := by
  subst hn hblk
  exact compressComposite s x y hph ht hturn hh hw

/-- From `s` a call on the message `m` has come to `s'`, before block `k`: PMB holds the padded message and H the chain
of the first `k` blocks. -/
structure State.ChainedTo {n : Nat} (s : State) (m : Vector Byte n) (k : Nat) (hk : k ≤ blockCount n) (s' : State) :
    Prop where
  ph : s'.ph = if k < blockCount n then 3#4 else 8#4
  t : s'.t = 0#7
  blk : k < blockCount n → s'.blk.toNat = k
  padded : ∀ (a : Nat) (ha : a < paddedLength n), s'.pmb.read a = some (padMessage m)[a]
  hash : s'.h = wordFile (chain m k hk)
  host : s.SameHostSide s'
  fcause : s'.fcause = s.fcause

section
variable {n : Nat} {m : Vector Byte n} {s s' : State}

/-- The block that PARSE reads is that of the padded message. -/
theorem State.ChainedTo.held {k : Nat} (hk : k < blockCount n) (at_k : s.ChainedTo m k hk.le s') (j : Fin 128) :
    s'.pmb.read (128 * s'.blk.toNat + j) = some (block m k hk)[j] := by
  have inside : 128 * k + j < paddedLength n := by rw [paddedLength_eq]; omega
  rw [at_k.blk hk, at_k.padded _ inside]
  simp [block]

/-- One block: PARSE to FOLD, 147 micro-operations. -/
theorem steps_block {k : Nat} (hk : k < blockCount n) (at_k : s.ChainedTo m k hk.le s') (hturn : s.agenda = [])
    (hn : s.n = n) (hfit : s.n ≤ s.cfg.maxMsgBytes.toNat) :
    ∃ s₁, steps 147 s' = .next s₁ ∧ s.ChainedTo m (k + 1) hk s₁ := by
  obtain ⟨-, hmlen, hcfg, hagenda, -⟩ := at_k.host
  have hblk := at_k.blk hk
  have hn' : s'.n = n := (congrArg BitVec.toNat hmlen).trans hn
  have inMessage : s'.blk.toNat < blockCount s'.n := by rwa [hblk, hn']
  have next : (s'.blk + 1#55).toNat = k + 1 := by rw [State.toNat_blk_succ inMessage, hblk]
  obtain ⟨d, expanded⟩ := expandComposite s' (block m k hk) (at_k.ph.trans (if_pos hk)) at_k.t (hagenda.trans hturn)
    inMessage (by rwa [hcfg, hn', ← hn]) (at_k.held hk)
  obtain ⟨v, d', compressed⟩ := steps_compress
    (s := { s' with w := wordFile (expand (block m k hk)), ph := 5#4, t := 0#7, draws := d })
    rfl rfl (hagenda.trans hturn) at_k.hash rfl hn' hblk
  exact ⟨_, (steps_add_of_next expanded 82).trans compressed, rfl, rfl,
    fun more => (congrArg BitVec.toNat (if_pos more)).trans next, at_k.padded, rfl, at_k.host, at_k.fcause⟩

/-- The first `k` blocks, from the state that SEED leaves. -/
theorem steps_blocks {k : Nat} (hk : k ≤ blockCount n) (at_0 : s.ChainedTo m 0 (Nat.zero_le _) s') (hturn : s.agenda = [])
    (hn : s.n = n) (hfit : s.n ≤ s.cfg.maxMsgBytes.toNat) :
    ∃ s₁, steps (147 * k) s' = .next s₁ ∧ s.ChainedTo m k hk s₁ := by
  induction k with
  | zero => exact ⟨s', rfl, at_0⟩
  | succ k ih =>
    obtain ⟨s₁, run, at_k⟩ := ih (Nat.le_of_succ_le hk)
    obtain ⟨s₂, folded, at_succ⟩ := steps_block hk at_k hturn hn hfit
    exact ⟨s₂, (steps_add_of_next run 147).trans folded, at_succ⟩

/-- PAD and SEED make ready for block 0. -/
theorem steps_pad_seed (hph : s.ph = 1#4) (ht : s.t = 0#7) (hturn : s.agenda = []) (holds : s.HoldsMessage m)
    (hfit : s.n ≤ s.cfg.maxMsgBytes.toNat) :
    ∃ s₁, steps 2 s = .next s₁ ∧ s.ChainedTo m 0 (Nat.zero_le _) s₁ := by
  obtain rfl := holds.1
  have padded := exec_pad_result hfit
  rw [holds.ofFn_cell] at padded
  have taken := (step_of_fetch hturn ((s.fetch_ok_iff .pad).mpr ⟨hph, ht⟩)).trans padded
  have seeded := step_of_fetch (s := { s with
    pmb := s.pmb.writeAll 0 (padMessage m).toList, ph := 2#4, t := 0#7, blk := 0#55, draws := s.draws + s.n })
    hturn ((State.fetch_ok_iff _ .seed).mpr ⟨rfl, rfl⟩)
  refine ⟨_, (steps_succ_of_next taken 1).trans (steps_succ_of_next seeded 0), (if_pos (blockCount_pos _)).symm, rfl,
    fun _ => rfl, fun a ha => ?padded, rfl, ⟨rfl, rfl, rfl, rfl, rfl⟩, rfl⟩
  case padded =>
    simp only [State.setPc_pmb, State.setH_pmb]
    exact s.pmb.read_writeAll_zero (padMessage m) a ha

/-- SERIALIZE of the whole chain writes the digest (44_serializer R170). -/
theorem step_serialize_of_chained (at_end : s.ChainedTo m (blockCount n) (Nat.le_refl _) s') (hturn : s.agenda = []) :
    ∃ s₁, step s' = .next s₁ ∧ s₁.Final ∧ (∀ a : Fin 64, s₁.dig.read a = some (hashMessage m)[a]) ∧
      s.SameHostSide s₁ ∧ s₁.fcause = s.fcause := by
  obtain ⟨-, -, -, hagenda, -⟩ := at_end.host
  have hturn' : s'.agenda = [] := hagenda.trans hturn
  have fetched := (s'.fetch_ok_iff .serialize).mpr ⟨at_end.ph.trans (if_neg (Nat.lt_irrefl _)), at_end.t⟩
  refine ⟨_, (step_of_fetch hturn' fetched).trans (exec_serialize_of_words at_end.hash), ⟨rfl, rfl, hturn'⟩,
    fun a => ?digest, at_end.host, at_end.fcause⟩
  case digest =>
    dsimp only
    exact s'.dig.read_writeAll_zero (hashMessage m) a a.isLt

end

/-- Settles O55: START, PAD and SEED, the blocks one after the other, SERIALIZE. -/
theorem hashComposite : Obligations.HashComposite := by
  intro s n m waits hturn holds hfit
  have fits : s.n ≤ s.cfg.maxMsgBytes.toNat := holds.1 ▸ hfit
  have started := step_start_of_accepted waits hturn fits
  set s₀ : State := { s with dig := [], ph := 1#4, t := 0#7, blk := 0#55, agenda := [] }
  obtain ⟨s₁, seeded, at_0⟩ := steps_pad_seed (s := s₀) (m := m) rfl rfl rfl holds fits
  obtain ⟨s₂, folded, at_end⟩ := steps_blocks (Nat.le_refl _) at_0 rfl holds.1 fits
  obtain ⟨s₃, serialized, final, digest, ⟨hmsg, hmlen, -, -, hreplies⟩, hcause⟩ := step_serialize_of_chained at_end rfl
  refine ⟨s₃, ?run, final, digest, hmsg, hmlen, hcause, hreplies⟩
  calc steps (1 + (3 + 147 * blockCount n)) s
    _ = steps (2 + (147 * blockCount n + 1) + 1) s := by congr 1; omega
    _ = steps (2 + (147 * blockCount n + 1)) s₀ := steps_succ_of_next started _
    _ = steps (147 * blockCount n + 1) s₁ := steps_add_of_next seeded _
    _ = steps 1 s₂ := steps_add_of_next folded 1
    _ = .next s₃ := steps_succ_of_next serialized 0

end Sys2Proof.Machine
end

section
/-! O40: an edge and the two turns it stands for. The sequencer's turn has no part in the turns still to come, so the
micro-operation may be taken before or after the event's turn is put on the agenda (60_exceptions R207; log 13). -/

namespace Sys2Proof.Machine

theorem steps_one (s : State) : steps 1 s = step s := by
  simp only [steps]
  cases step s <;> rfl

theorem coreTurn_setAgenda (s : State) (l : List Turn) :
    coreTurn (s.setAgenda l) = outcomeWithAgenda l (coreTurn s) := by
  rw [coreTurn, coreTurn, State.setAgenda_fetch]
  cases s.fetch with
  | ok i => exact exec_setAgenda i s l
  | error e => rfl

/-- Settles O40: both sides take the same micro-operation; where it has a next state they then take the same event, and
where it has none both stop as it does. -/
theorem edgeIsMicroOperationThenEvent : Obligations.EdgeIsMicroOperationThenEvent := by
  intro s e rest notReset hturn
  have first : step { s with agenda := .core :: .host e :: rest } =
      outcomeWithAgenda (.host e :: rest) (coreTurn s) := coreTurn_setAgenda s (.host e :: rest)
  rw [step_of_edge hturn, edgeTurn, if_neg notReset, coreTurn_setAgenda, steps, first]
  cases coreTurn s with
  | next s₁ => exact (steps_one (s₁.setAgenda (.host e :: rest))).symm
  | fault f => rfl
  | refused r => rfl

end Sys2Proof.Machine
end

section
/-! O41: in FAULT the sequencer waits, and of the host events reset alone touches the phase, FCAUSE or the data state
(60_exceptions R207, R209). -/

namespace Sys2Proof.Machine

/-- Where the sequencer waits, a step uses up a turn and changes nothing else, or it is the host event of that turn. -/
theorem step_next_of_waits {s s' : State} (waits : s.Waits) (h : step s = .next s') :
    s' = s.setAgenda s.agenda.tail ∨
    ∃ e rest, (s.agenda = .host e :: rest ∨ s.agenda = .edge e :: rest) ∧ hostTurn e (s.setAgenda rest) = .next s' := by
  have wait (l : List Turn) : coreTurn (s.setAgenda l) = .next (s.setAgenda l) :=
    State.Waits.coreTurn_eq (s := s.setAgenda l) waits
  match hturn : s.agenda with
  | [] =>
    rw [step_of_no_turn hturn, waits.coreTurn_eq] at h
    cases h
    exact .inl (by rw [List.tail_nil, ← hturn]; rfl)
  | .core :: rest =>
    rw [step_of_core hturn, wait] at h
    cases h; exact .inl rfl
  | .host e :: rest => exact .inr ⟨e, rest, .inl rfl, step_of_host hturn ▸ h⟩
  | .edge e :: rest =>
    rw [step_of_edge hturn, edgeTurn_of_wait (wait rest)] at h
    exact .inr ⟨e, rest, .inr rfl, h⟩

/-- In FAULT a host event other than reset writes MSG, MLEN and the model's own record at most: START has no effect
there. -/
theorem hostTurn_frame_of_fault {e : HostEvent} {s s' : State} (hph : s.ph = 15#4) (notReset : e ≠ .reset)
    (h : hostTurn e s = .next s') :
    ∃ msg mlen draws replies, s' = { s with msg := msg, mlen := mlen, draws := draws, replies := replies } := by
  by_cases start : e = .writeCtrl 1#1
  · obtain ⟨-, -, -, noEffect⟩ := startBeginsACall s
    rw [start, hostTurn_start, noEffect hph] at h
    cases h; exact ⟨_, _, _, _, rfl⟩
  · exact hostTurn_frame_of_not_busy (by simp [State.busy, hph]) notReset start h

/-- Settles O41: FAULT is a wait state, and a host event there keeps all nine fields unless it is reset. -/
theorem faultIsSticky : Obligations.FaultIsSticky := by
  intro s hph ht
  have waits : s.Waits := ⟨.inr (.inr hph), ht⟩
  refine ⟨fun hturn => (step_of_no_turn hturn).trans waits.coreTurn_eq, fun s' noReset h => ?_⟩
  obtain rfl | ⟨e, rest, hturn, hhost⟩ := step_next_of_waits waits h
  · exact ⟨hph, ht, rfl, rfl, rfl, rfl, rfl, rfl, rfl⟩
  · have notReset : e ≠ .reset := by
      rintro rfl
      exact hturn.elim (noReset rest).1 (noReset rest).2
    obtain ⟨_, _, _, _, rfl⟩ := hostTurn_frame_of_fault (s := s.setAgenda rest) hph notReset hhost
    exact ⟨hph, ht, rfl, rfl, rfl, rfl, rfl, rfl, rfl⟩

end Sys2Proof.Machine
end

section
/-! O30, O32: the entry into FAULT, and the host's turns that cause it or never do (60_exceptions R203, R208). -/

namespace Sys2Proof.Machine

/-- Settles O30: the fields the entry writes, and the flags of phase 15. -/
theorem faultEntry : Obligations.FaultEntry := by
  intro s cause notFault
  have notBusy : (s.raise cause).busy = false := by simp [State.busy]
  have notDone : (s.raise cause).isDone = false := by simp [State.isDone, phFault, phDone]
  exact ⟨State.raise_of_ne notFault cause, s.raise_isFault cause, notBusy, notDone⟩

/-- While BUSY = 1 a START or a host write raises HOST_PROTOCOL and does nothing else. -/
theorem hostTurn_of_protocol_breach {e : HostEvent} {s : State} (busy : s.busy = true)
    (breach : e = .writeCtrl 1#1 ∨ (∃ a b, e = .writeMsg a b) ∨ ∃ n, e = .writeMlen n) :
    hostTurn e s = .next (s.raise causeHostProtocol) := by
  obtain rfl | ⟨a, b, rfl⟩ | ⟨n, rfl⟩ := breach
  · obtain ⟨h1, h8⟩ := s.busy_iff.mp busy
    obtain ⟨-, -, protocol, -⟩ := startBeginsACall s
    exact protocol h1 h8
  · rw [hostTurn_writeMsg, if_pos busy]
  · rw [hostTurn_writeMlen, if_pos busy]

/-- A host read is one reply, and a draw at most. -/
theorem hostTurn_of_read {e : HostEvent} (read : e = .readStatus ∨ e = .readMlen ∨ ∃ a, e = .readDig a) (s : State) :
    ∃ r k, hostTurn e s = .next { s with replies := r :: s.replies, draws := k } := by
  obtain rfl | rfl | ⟨a, rfl⟩ := read <;> exact ⟨_, _, rfl⟩

/-- Settles O32: a breach raises the fault on the state the turn finds, and a read is a reply whatever that state is. -/
theorem hostProtocol : Obligations.HostProtocol := by
  intro s rest
  refine ⟨fun e busy hturn breach => ?breach, fun e hturn read => ?read⟩
  case breach =>
    have notFault : (s.setAgenda rest).ph ≠ phFault := State.ph_ne_fault_of_busy busy
    obtain ⟨entry, -⟩ := faultEntry (s.setAgenda rest) causeHostProtocol notFault
    rw [step_of_host hturn, hostTurn_of_protocol_breach (s := s.setAgenda rest) busy breach, entry]
    rfl
  case read =>
    rw [step_of_host hturn]
    exact hostTurn_of_read read (s.setAgenda rest)

end Sys2Proof.Machine
end

section
/-! O43, O47: the defensive checks, and that the sequencer itself raises nothing (60_exceptions R200, R205). -/

namespace Sys2Proof.Machine

/-- Settles O43: a PARSE whose check passes ends in SCHED, a PARSE whose check fails in FAULT. -/
theorem defensiveChecks : Obligations.DefensiveChecks := by
  refine ⟨fun n => ⟨paddedLength_pos n, paddedLength_mod n⟩, fun s s' h => ?pad, fun s _ =>
    ⟨fun beyond => ?fails, fun h => ?raised⟩⟩
  case pad =>
    obtain ⟨-, rfl⟩ := execPad_next.mp h
    simp
  case fails => exact execParse_next.mpr (.inr ⟨beyond, rfl⟩)
  case raised =>
    obtain ⟨-, -, toSched⟩ | ⟨beyond, -⟩ := execParse_next.mp h
    · have phases : phFault = phSched := (s.raise_ph causeInvariant).symm.trans (congrArg State.ph toSched)
      exact absurd phases (by decide)
    · exact beyond

/-- Settles O47: the sequencer waits, or it performs an operation of the call, which does not write FCAUSE. -/
theorem coreNeverFaults : Obligations.CoreNeverFaults := by
  intro s hi hturn
  rw [step_of_no_turn hturn]
  obtain waits | call := hi.sequencerInv
  · exact ⟨s, waits.coreTurn_eq, rfl⟩
  · obtain ⟨i, s', -, taken, same, -⟩ := coreTurn_of_inCall call
    exact ⟨s', taken, same.fcause.trans (s.advance_fcause i)⟩

end Sys2Proof.Machine
end

section
/-! O39: reset, alone or on an edge. On an edge reset wins, so that the control word and with it the phase have no part
in the step (60_exceptions R207, 70_reset_and_hazards R230). -/

namespace Sys2Proof.Machine

/-- RESET gives the state after reset, with the instance's parameters and the model's own record kept (10_state R41). -/
theorem State.resetNow_eq (s : State) : s.resetNow =
    { State.reset with cfg := s.cfg, draws := s.draws, agenda := s.agenda, replies := s.replies } := rfl

theorem hostTurn_reset (s : State) : hostTurn .reset s = .next s.resetNow := rfl

theorem edgeTurn_reset (s : State) : edgeTurn .reset s = hostTurn .reset s := if_pos rfl

/-- Settles O39: either turn is the host event RESET, on the state with that turn used up. -/
theorem resetInAnyPhase : Obligations.ResetInAnyPhase := by
  intro s rest hturn
  have isReset : step s = hostTurn .reset (s.setAgenda rest) := by
    obtain alone | onEdge := hturn
    · exact step_of_host alone
    · exact (step_of_edge onEdge).trans (edgeTurn_reset _)
  rw [isReset, hostTurn_reset, State.resetNow_eq]
  rfl

end Sys2Proof.Machine
end
